-- ==== Sys2Proof/Word.lean ====
section
/-! DEFINITION. The words of the block: the operation word (30_encoding.md R70) and the level of one port line
(10_state.md R33). Counts, duties and multipliers are integers of their stated range (00_scope.md R9, 20_memory.md
R52), because their widths are configuration constants (00_scope.md R8). -/

namespace Sys2Proof

/-- One operation word `op[7:0]` (30_encoding.md R70). -/
abbrev OpWord := BitVec 8

/-- The level of one port line (10_state.md R33). -/
abbrev Level := BitVec 1

end Sys2Proof
end

