-- ==== Sys2Proof/Config.lean ====
section
/-! DEFINITION. What an implementation fixes (10_state.md R30, 00_scope.md R8): every constant of the source is a
field of `Params` with the document's value as its reference (93_implementation_defined.md I9). Then the values the
spec leaves free: the open parameters and the environment's draws (10_state.md R36, 43_external_interfaces.md R199). -/

namespace Sys2Proof

/-- The reference value of `N_AXES` (00_scope.md R8). -/
def Config.nAxes : Nat := 3

/-- The reference value of `COUNT_W` (00_scope.md R8). -/
def Config.countW : Nat := 16

/-- The reference value of `COUNT_LIMIT`, the document's example 10000: the parameter itself is OPEN and no operation
reads it (00_scope.md R8, 93_implementation_defined.md I2, I9, log entry 21). -/
def Config.countLimit : Nat := 10000

/-- The reference value of `RES_BITS` (00_scope.md R8). -/
def Config.resBits : Nat := 10

/-- The reference value of `MULT_TIER` for source input 1 (00_scope.md R8). -/
def Config.multTier1 : Nat := 10

/-- The reference value of `MULT_TIER` for source input 2 (00_scope.md R8). -/
def Config.multTier2 : Nat := 100

/-- The reference value of `MULT_TIER` for source input 3 (00_scope.md R8). -/
def Config.multTier3 : Nat := 1000

/-- The reference value of `MULT_DEFAULT` (00_scope.md R8). -/
def Config.multDefault : Nat := 10

/-- The reference value of `PERIOD_MS` (00_scope.md R8, 10_state.md R30). -/
def Config.periodMs : PNat := 100

/-- The reference value of `PREV_RESET` (00_scope.md R8, 92_eei_decisions.md D7). -/
def Config.prevReset : Int := 0

/-- `FWD_LEVEL`, the direction-line level that means Forward: an OPEN parameter, so a constant with no
body (92_eei_decisions.md D10, log entry 4). -/
opaque Config.fwdLevel : Level

/-- `SEL_ACTIVE`, the electrical level that means asserted on a select line: an OPEN parameter, so a
constant with no body (92_eei_decisions.md D11, log entry 4). -/
opaque Config.selActive : Level

/-- The configuration constants (00_scope.md R8, 10_state.md R30): fixed for the life of the block between resets,
read-only to the block. `DUTY_MAX` is derived from `resBits` (`Machine.dutyMax`). Which values are legal is
`Machine.ParamsLegal`. -/
structure Params where
  /-- `N_AXES`, the number of axes -/
  nAxes : Nat
  /-- `COUNT_W`, the width of a count word -/
  countW : Nat
  /-- `COUNT_LIMIT`, the counter's symmetric window, read by no operation: only the premise `Machine.InWindow` names it
  (43_external_interfaces.md R191) -/
  countLimit : Nat
  /-- `RES_BITS`, the duty resolution, fixed at init -/
  resBits : Nat
  /-- `MULT_TIER` of source input 1 -/
  multTier1 : Nat
  /-- `MULT_TIER` of source input 2 -/
  multTier2 : Nat
  /-- `MULT_TIER` of source input 3 -/
  multTier3 : Nat
  /-- `MULT_DEFAULT` -/
  multDefault : Nat
  /-- `PERIOD_MS`, a positive duration -/
  periodMs : PNat
  /-- `PREV_RESET`, an integer of `COUNT_W` signed bits -/
  prevReset : Int
  /-- `FWD_LEVEL`, 0 or 1 -/
  fwdLevel : Level
  /-- `SEL_ACTIVE`, 0 or 1 -/
  selActive : Level
  deriving DecidableEq, Repr

/-- The configuration out of reset (10_state.md R30, column "value out of reset"): the reference values, and
the open parameters left open. -/
def Params.reference : Params :=
  { nAxes := Config.nAxes
    countW := Config.countW
    countLimit := Config.countLimit
    resBits := Config.resBits
    multTier1 := Config.multTier1
    multTier2 := Config.multTier2
    multTier3 := Config.multTier3
    multDefault := Config.multDefault
    periodMs := Config.periodMs
    prevReset := Config.prevReset
    fwdLevel := Config.fwdLevel
    selActive := Config.selActive }

/-- What the input ports present to one step (10_state.md R32). Each field is a draw of the environment
(10_state.md R36); a step takes one record (log entry 2). There is one count port for each axis the 2-bit operand
of `UPD` can name; an operation reads only the port of an axis that exists (log entry 15). -/
structure Inputs where
  /-- `rst`, asserted = `true` -/
  rst : Bool
  /-- `hal_fail`: a collaborator call has failed -/
  halFail : Bool
  /-- `period_elapsed`: the requested sampling period is over -/
  periodElapsed : Bool
  /-- `sel_i[2:0]`, normalised: bit k is 1 when source input k+1 is asserted -/
  sel : BitVec 3
  /-- `cnt_i[0]`, the word on the count port of axis 0 -/
  cnt0 : Int
  /-- `cnt_i[1]` -/
  cnt1 : Int
  /-- `cnt_i[2]` -/
  cnt2 : Int
  /-- `cnt_i[3]`, a port that a block of three axes does not have and never reads -/
  cnt3 : Int
  deriving DecidableEq, Repr, Inhabited

/-- The environment's draw number `n`: a FREE VALUE, a constant with no body, used when the queue of fixed
draws is empty (log entry 1). -/
opaque Config.environment : Nat → Inputs

end Sys2Proof
end

