-- ==== Sys2Proof/Syntax.lean ====
section
/-! DEFINITION. The operation set: one constructor per row of spec/opcode_table.json (00_scope.md R3,
30_encoding.md R70). -/

namespace Sys2Proof

/-- One operation of the block. -/
inductive Instr where
  /-- `SMUL`: sample the multiplier (41_scale_selector.md R144). -/
  | smul
  /-- `UPD a`: update axis `a`; the operand is the whole 2-bit field `op[1:0]` (30_encoding.md R72,
  40_axis_controller.md R105). -/
  | upd (a : BitVec 2)
  /-- `WAIT`: sleep one sampling period (42_control_loop.md R162). -/
  | wait
  deriving DecidableEq, Repr

end Sys2Proof
end

