-- ==== Sys2Proof/WellFormed.lean ====
section
/-! DEFINITION. Which operations exist: `UPD a` needs an axis that exists (30_encoding.md R72, R75 (a)). -/

namespace Sys2Proof

/-- An operation of a block with `n` axes is well formed when its axis index, if it has one, is in `0 .. n-1`
(30_encoding.md R72). -/
def Instr.wellFormed (n : Nat) : Instr → Bool
  | .smul => true
  | .upd a => decide (a.toNat < n)
  | .wait => true

end Sys2Proof
end

