-- ==== Sys2Proof/Decode.lean ====
section
/-! DEFINITION. The decoder and the encoder of the operation word (30_encoding.md R70 to R75), the fixed
layout of its fields, and the host's view of the decoder. -/

namespace Sys2Proof

/-- Why a word or a byte sequence is no operation. -/
inductive DecodeError where
  /-- `ILLEGAL_OP`: one of the 251 illegal words (30_encoding.md R75), with the word (60_exceptions.md R223). -/
  | illegalOp (word : OpWord)
  /-- There is no word left to decode: an operation is exactly one word long (30_encoding.md R73). -/
  | noWord
  deriving DecidableEq, Repr

/-- The field `cls = op[7:6]` (30_encoding.md R70). -/
def fieldCls (w : OpWord) : BitVec 2 := w.extractLsb' 6 2

/-- The reserved field `z = op[5:2]` (30_encoding.md R70). -/
def fieldZ (w : OpWord) : BitVec 4 := w.extractLsb' 2 4

/-- The field `a = op[1:0]` (30_encoding.md R70). -/
def fieldA (w : OpWord) : BitVec 2 := w.extractLsb' 0 2

/-- Decode one operation word for a block with `n` axes: the class first, then the reserved and the axis fields
(30_encoding.md R70 to R75). Every illegal word is rejected with itself. -/
def decode (n : Nat) (w : OpWord) : Except DecodeError Instr :=
  if fieldZ w ≠ 0 then .error (.illegalOp w)
  else if fieldCls w = 0b00#2 then
    if fieldA w = 0 then .ok .smul else .error (.illegalOp w)
  else if fieldCls w = 0b01#2 then
    if (fieldA w).toNat < n then .ok (.upd (fieldA w)) else .error (.illegalOp w)
  else if fieldCls w = 0b10#2 then
    if fieldA w = 0 then .ok .wait else .error (.illegalOp w)
  else .error (.illegalOp w)

/-- Decode the first operation of a byte sequence and give the rest: every operation is exactly one word
(30_encoding.md R73). -/
def decodeBytes (n : Nat) : List OpWord → Except DecodeError (Instr × List OpWord)
  | [] => .error .noWord
  | w :: rest =>
    match decode n w with
    | .ok i => .ok (i, rest)
    | .error e => .error e

/-- Decode a whole list of operation words, as 42_control_loop.md R170 reads one. -/
def decodeAll (n : Nat) : List OpWord → Except DecodeError (List Instr)
  | [] => .ok []
  | w :: rest =>
    match decode n w with
    | .error e => .error e
    | .ok i =>
      match decodeAll n rest with
      | .error e => .error e
      | .ok is => .ok (i :: is)

/-- Put the three fields of 30_encoding.md R70 together. -/
def packFields (cls : BitVec 2) (z : BitVec 4) (a : BitVec 2) : OpWord := cls ++ z ++ a

/-- The operation word of an operation (30_encoding.md R70, R74); for `UPD` with an axis that does not exist it
is the illegal word 0x43 (R75 (a)). -/
def encode : Instr → OpWord
  | .smul => packFields 0b00 0 0
  | .upd a => packFields 0b01 0 a
  | .wait => packFields 0b10 0 0

/-- What the decoder reads from an instruction whose bits are `w`, numbered as spec/opcode_table.json numbers
them, for a block with the reference number of axes. An operation is one 8-bit word (30_encoding.md R73): fewer given bits are filled with zeros, and more than
8 bits are no operation. -/
def decodeTableWord (nbits w : Nat) : Option Instr :=
  if nbits ≤ 8 then
    match decodeBytes Config.nAxes [BitVec.ofNat 8 (w % 2 ^ nbits)] with
    | .ok (i, []) => some i
    | .ok (_, _ :: _) => none
    | .error _ => none
  else none

end Sys2Proof
end

