-- ==== Sys2Proof/Machine/State.lean ====
section
/-! DEFINITION. The state of the block (10_state.md R20 to R28, R35), the configuration it runs with (R30), the
event history (43_external_interfaces.md R200), the model's own fields for holding, operation-word lists and
draws, and the reasons a step can stop. -/

namespace Sys2Proof.Machine

/-- `Dir`, the two directions (00_scope.md R9). -/
inductive Dir where
  | forward
  | reverse
  deriving DecidableEq, Repr

/-- The block's one fault (60_exceptions.md R223). -/
inductive Fault where
  /-- `HAL_FAILURE`, code 1, raised by any operation when `hal_fail` is present (60_exceptions.md R222). It is
  recorded as an event and sets the sticky bit `State.fault`. The step answers a NEXT state, because the block
  keeps its state and `rst` ends the fault; no step of this model ends with this reason (log entry 6). Safe: the
  stuck block completes nothing. -/
  | halFailure
  deriving DecidableEq, Repr

/-- Why the model gives a step no meaning (00_scope.md R12, 60_exceptions.md R223). -/
inductive Refusal where
  /-- An operation that has no meaning yet. No arm of `exec` raises it. Safe: nothing follows from it. -/
  | notModelled (mnemonic : String)
  /-- `ILLEGAL_OP`: the decoder, or `UPD` with an axis that does not exist, met an illegal word (30_encoding.md
  R75, 40_axis_controller.md R105). Model-only: the block's sequencer never issues one. Safe. -/
  | illegalOp (word : OpWord)
  /-- `NO_MULTIPLIER`: `UPD` with an empty multiplier latch (40_axis_controller.md R105). Model-only: it never
  happens under the fixed program. Safe. -/
  | noMultiplier (axis : Nat)
  /-- The model-only list of operation words has no word left (42_control_loop.md R170: the list is finite).
  Raised by the fetch. Safe. -/
  | listEnded
  deriving DecidableEq, Repr

/-- The axis record `A[a]` (10_state.md R21). -/
structure Axis where
  /-- `previous_count`, an integer of `COUNT_W` signed bits (10_state.md R22) -/
  prev : Int
  /-- `direction`, none until the first commit (10_state.md R23) -/
  dir : Option Dir
  /-- `commanded_duty` in `[0, DUTY_MAX]`, none until the first commit (10_state.md R24) -/
  duty : Option Nat
  deriving DecidableEq, Repr

/-- One event of the history (43_external_interfaces.md R200). -/
inductive Event where
  | selRead (i1 i2 i3 : Bool)
  | countRead (a : Nat) (c : Int)
  | commit (a : Nat) (d : Dir) (u : Nat)
  | sleep (periodMs : PNat)
  | fault (r : Fault)
  | reset
  deriving DecidableEq, Repr

/-- A model-only list of operation words with the index that takes the place of `seq` (42_control_loop.md R170). -/
structure OpList where
  words : List OpWord
  index : Nat
  deriving DecidableEq, Repr

/-- The state. `axes`, `m`, `seq` and `fault` are the block's (10_state.md R20); `cfg` is its configuration (R30);
the other fields are the model's own. The stated ranges are the invariant `State.Inv` of Safety.lean. -/
structure State where
  /-- the configuration constants, never written by a step (10_state.md R30) -/
  cfg : Params
  /-- the axis records `A[0 .. N_AXES-1]` (10_state.md R21), one for each of the `N_AXES` axes -/
  axes : List Axis
  /-- the multiplier latch `M`: the number itself (10_state.md R26, 30_encoding.md R77) -/
  m : Option Nat
  /-- the sequencer index in `[0, N_AXES+1]` (10_state.md R27) -/
  seq : Nat
  /-- the sticky fatal-fault bit (10_state.md R28) -/
  fault : Bool
  /-- the model's own: `WAIT` was entered and has emitted its `sleep_req` (42_control_loop.md R162, log entry 5) -/
  sleeping : Bool
  /-- the model's own: the model-only operation list, if one is run (42_control_loop.md R170, log entry 10) -/
  opList : Option OpList
  /-- the model's own record: the event history, oldest first (43_external_interfaces.md R200) -/
  history : List Event
  /-- the model's own: draws already fixed for the coming steps, the next one first (10_state.md R36, log entry 1) -/
  inputs : List Inputs
  /-- the model's own: how many draws have been taken (log entry 1) -/
  drawn : Nat
  deriving DecidableEq, Repr

/-- An axis record after reset: `prev` at `PREV_RESET`, nothing committed (10_state.md R35). -/
def Axis.atReset (cfg : Params) : Axis := { prev := cfg.prevReset, dir := none, duty := none }

/-- The block right after reset, with its configuration at the reference values (10_state.md R35, R30). -/
def State.reset : State :=
  { cfg := Params.reference
    axes := List.replicate Config.nAxes (Axis.atReset Params.reference)
    m := none
    seq := 0
    fault := false
    sleeping := false
    opList := none
    history := []
    inputs := []
    drawn := 0 }

end Sys2Proof.Machine
end

