-- ==== Sys2Proof/Machine/Ops.lean ====
section
/-! DEFINITION. The shared operations on the state: taking a draw, recording events, the sequencer's advance,
the atomic commit, entering `HAL_FAILURE`, reset, and the one frame every operation's step stands in. -/

namespace Sys2Proof.Machine

/-- What the input ports present to the coming step: the first fixed draw, or the environment's free draw
(10_state.md R36). -/
def State.draw (s : State) : Inputs :=
  match s.inputs with
  | [] => Config.environment s.drawn
  | d :: _ => d

/-- The coming step's draw is used up (10_state.md R36: read fresh, not retained). -/
def State.consume (s : State) : State :=
  { s with inputs := s.inputs.tail, drawn := s.drawn + 1 }

/-- Record one event, in program order (43_external_interfaces.md R200). -/
def State.record (s : State) (e : Event) : State := { s with history := s.history ++ [e] }

/-- `M <- m` (10_state.md R26). -/
def State.latch (s : State) (m : Nat) : State := { s with m := some m }

/-- Write the axis record `A[a]` (10_state.md R21). -/
def State.setAxis (s : State) (a : Nat) (r : Axis) : State := { s with axes := s.axes.set a r }

/-- Whether `WAIT` is holding. -/
def State.setSleeping (s : State) (b : Bool) : State := { s with sleeping := b }

/-- `seq <- (seq + 1) mod (N_AXES + 2)` for a block with `n` axes (42_control_loop.md R161). -/
def nextSeq (n q : Nat) : Nat := (q + 1) % (n + 2)

/-- The operation completed: the sequencer advances by exactly one; in a model-only operation list the list
index takes the place of `seq` (42_control_loop.md R161, R170). -/
def State.advance (s : State) : State :=
  match s.opList with
  | none => { s with seq := nextSeq s.cfg.nAxes s.seq }
  | some l => { s with opList := some { l with index := l.index + 1 } }

/-- `Commit(a, d, u)` together with `A[a].prev <- c`: the whole record changes in one transition and one event
says so (20_memory.md R58, 40_axis_controller.md R106, R107). -/
def State.commit (s : State) (a : Nat) (c : Int) (d : Dir) (u : Nat) : State :=
  (s.setAxis a { prev := c, dir := some d, duty := some u }).record (.commit a d u)

/-- `Sleep(PERIOD_MS)`: one `sleep_req` on entry to `WAIT`, none while it holds (42_control_loop.md R162). -/
def State.requestSleep (s : State) : State :=
  if s.sleeping then s else (s.record (.sleep s.cfg.periodMs)).setSleeping true

/-- Reset: every piece of state takes its value of 10_state.md R35, and the event is recorded (70_reset_and_hazards.md
R250). The configuration stays (10_state.md R30), and a model-only operation list is dropped (log entry 8). -/
def State.takeReset (s : State) : State :=
  { cfg := s.cfg
    axes := List.replicate s.cfg.nAxes (Axis.atReset s.cfg)
    m := none
    seq := 0
    fault := false
    sleeping := false
    opList := none
    history := s.history ++ [.reset]
    inputs := s.inputs.tail
    drawn := s.drawn + 1 }

/-- Entering `HAL_FAILURE`: the sticky bit is set and the event recorded; `seq`, `A` and `M` keep their values
(60_exceptions.md R222). -/
def State.takeHalFailure (s : State) : State :=
  ({ s with fault := true }.record (.fault .halFailure)).consume

/-- One step of an operation whose own effect is `body`. Reset dominates; while `fault` is set nothing has a
step; `hal_fail` stops the operation from completing; otherwise the operation has its effect (60_exceptions.md
R225, R222, R227; 70_reset_and_hazards.md R250; 10_state.md R28). -/
def State.attempt (s : State) (body : Host.Outcome State Fault Refusal) : Host.Outcome State Fault Refusal :=
  if s.draw.rst then .next s.takeReset
  else if s.fault then .next s.consume
  else if s.draw.halFail then .next s.takeHalFailure
  else body

end Sys2Proof.Machine
end

