-- ==== Sys2Proof/Machine/Operands.lean ====
section
/-! DEFINITION. The operand forms: the axis operand of `UPD`, and the two environment reads that stand in the
place of source operands (30_encoding.md R72, 00_scope.md R11). -/

namespace Sys2Proof.Machine

/-- The record of axis `a`; none when no such axis exists (20_memory.md R51, 30_encoding.md R72, R75 (a)). -/
def State.axisAt (s : State) (a : Nat) : Option Axis := if a < s.cfg.nAxes then s.axes[a]? else none

/-- The word on the count port of axis `a` (10_state.md R32). -/
def portCount (d : Inputs) : Nat → Int
  | 0 => d.cnt0
  | 1 => d.cnt1
  | 2 => d.cnt2
  | _ => d.cnt3

/-- The value of a port word of `w` bits in two's complement: the low `w` bits, less `2^w` when the top one is set
(00_scope.md R10). -/
def signedWord (w : Nat) (x : Int) : Int :=
  if 2 * (x % 2 ^ w) < 2 ^ w then x % 2 ^ w else x % 2 ^ w - 2 ^ w

/-- The count that axis `a`'s port presents in a draw: its word of `COUNT_W` bits (30_encoding.md R80). -/
def countOn (p : Params) (d : Inputs) (a : Nat) : Int := signedWord p.countW (portCount d a)

/-- `ReadCount(a)`: one sample of `cnt_i[a]` (43_external_interfaces.md R191, 20_memory.md R56). -/
def State.readCount (s : State) (a : Nat) : Int := countOn s.cfg s.draw a

/-- `ReadSel()`: one sample of the three select lines, `sel_i[0]` first (43_external_interfaces.md R192,
20_memory.md R57). -/
def State.readSel (s : State) : Bool × Bool × Bool :=
  (s.draw.sel.getLsbD 0, s.draw.sel.getLsbD 1, s.draw.sel.getLsbD 2)

end Sys2Proof.Machine
end

