-- ==== Sys2Proof/Machine/ScaleSelector.lean ====
section
/-! DEFINITION. The Scale Selector: the decode function SELECT and the operation `SMUL` (41_scale_selector.md). -/

namespace Sys2Proof.Machine

/-- `SELECT(i1, i2, i3)`: first match in index order, else `MULT_DEFAULT` (41_scale_selector.md R140). -/
def select (p : Params) (i1 i2 i3 : Bool) : Nat :=
  if i1 then p.multTier1 else if i2 then p.multTier2 else if i3 then p.multTier3 else p.multDefault

/-- The normalised port word `sel_i` that three electrical levels give: a line is asserted when its level equals
`SEL_ACTIVE` (43_external_interfaces.md R192, 10_state.md R32). The environment's side of the port. -/
def selWord (p : Params) (levels : BitVec 3) : BitVec 3 :=
  if p.selActive = 1#1 then levels else ~~~levels

/-- `SMUL` (41_scale_selector.md R144): sample the select lines once, latch the multiplier, advance. -/
def execSmul (s : State) : Host.Outcome State Fault Refusal :=
  let (i1, i2, i3) := s.readSel
  s.attempt (.next ((s.record (.selRead i1 i2 i3)).latch (select s.cfg i1 i2 i3)).advance.consume)

end Sys2Proof.Machine
end

