-- ==== Sys2Proof/Machine/AxisController.lean ====
section
/-! DEFINITION. The Axis Controller: the pure functions DELTA, DIRMAG, SCALE and SAT, and the operation `UPD a`
(40_axis_controller.md). -/

namespace Sys2Proof.Machine

/-- `DELTA(cur, prev)`: the velocity, computed exactly (40_axis_controller.md R100). -/
def delta (cur prev : Int) : Int := cur - prev

/-- `DIRMAG(v)`: Forward exactly when `v > 0`, and the magnitude (40_axis_controller.md R101). -/
def dirMag (v : Int) : Dir × Nat :=
  if v > 0 then (.forward, v.toNat) else (.reverse, (-v).toNat)

/-- `SCALE(mag, m)`: the exact product (40_axis_controller.md R102). -/
def scale (mag m : Nat) : Nat := mag * m

/-- `DUTY_MAX = 2^RES_BITS - 1` (00_scope.md R8, 10_state.md R30). -/
def dutyMax (p : Params) : Nat := 2 ^ p.resBits - 1

/-- `SAT(x)`: the silent clamp (40_axis_controller.md R103). -/
def sat (p : Params) (x : Nat) : Nat := min x (dutyMax p)

/-- The direction one update commits, from the new count and the old count. -/
def commandedDir (c prev : Int) : Dir := (dirMag (delta c prev)).1

/-- The duty one update commits (40_axis_controller.md R100 to R103). -/
def commandedDuty (p : Params) (c prev : Int) (m : Nat) : Nat := sat p (scale (dirMag (delta c prev)).2 m)

/-- The effect of `UPD a` on the record `r` with the multiplier `m` latched: the old `prev` is read before the record
is written, and the record changes in one transition (40_axis_controller.md R105 to R107). -/
def State.updateAxis (s : State) (a : Nat) (r : Axis) (m : Nat) : State :=
  let c := s.readCount a
  (s.record (.countRead a c)).commit a c (commandedDir c r.prev) (commandedDuty s.cfg c r.prev m)

/-- `UPD a` (40_axis_controller.md R105). ILLEGAL_OP comes before NO_MULTIPLIER (60_exceptions.md R225). -/
def execUpd (a : BitVec 2) (s : State) : Host.Outcome State Fault Refusal :=
  s.attempt
    (match s.axisAt a.toNat with
    | none => .refused (.illegalOp (encode (.upd a)))
    | some r =>
      match s.m with
      | none => .refused (.noMultiplier a.toNat)
      | some m => .next (s.updateAxis a.toNat r m).advance.consume)

end Sys2Proof.Machine
end

