-- ==== Sys2Proof/Machine/ControlLoop.lean ====
section
/-! DEFINITION. The Control Loop: the fixed program, the fetch, and the operation `WAIT` (42_control_loop.md). -/

namespace Sys2Proof.Machine

/-- `PROG`, the fixed program of a block with `n` axes (42_control_loop.md R160): `SMUL`, then `UPD a` in ascending
order, then `WAIT`. -/
def prog (n q : Nat) : Instr :=
  if q = 0 then .smul
  else if q ≤ n then .upd (BitVec.ofNat 2 (q - 1))
  else .wait

/-- The operations of one iteration, in order: the pseudo-operation `ITER` (30_encoding.md R82). -/
def iter (n : Nat) : List Instr := (List.range (n + 2)).map (prog n)

/-- The operation word the sequencer issues next: `PROG[seq]` (42_control_loop.md R161), or in a model-only list
the word at the list index, none after the last one (R170). -/
def State.fetch (s : State) : Option OpWord :=
  match s.opList with
  | none => some (encode (prog s.cfg.nAxes s.seq))
  | some l => l.words[l.index]?

/-- `WAIT` (42_control_loop.md R162): `sleep_req` on entry, hold until `period_elapsed`, then advance. Holding is a
next state in which nothing but the emitted `sleep_req` has changed (log entry 5). -/
def execWait (s : State) : Host.Outcome State Fault Refusal :=
  s.attempt
    (if s.draw.periodElapsed then .next (s.requestSleep.setSleeping false).advance.consume
    else .next s.requestSleep.consume)

end Sys2Proof.Machine
end

