-- ==== Sys2Proof/Machine/Dispatch.lean ====
section
/-! DEFINITION. One arm per operation: each calls the operation's own meaning. -/

namespace Sys2Proof.Machine

def exec (i : Instr) (s : State) : Host.Outcome State Fault Refusal :=
  match i with
  | .smul => Sys2Proof.Machine.execSmul s
  | .upd a => Sys2Proof.Machine.execUpd a s
  | .wait => Sys2Proof.Machine.execWait s

end Sys2Proof.Machine
end

