-- ==== Sys2Proof/Machine/Cycle.lean ====
section
/-! DEFINITION. One cycle of the sequencer around the operations' meanings (42_control_loop.md R161, R170), and
how an operation word is placed where the next cycle fetches it. Step.lean only calls what stands here. -/

namespace Sys2Proof.Machine

/-- Fetch the next operation word, decode it and run it. A word that is no operation, and a list that has ended,
stand in the same frame as an operation: reset, a standing fault and `hal_fail` come before the refusal
(60_exceptions.md R225, log entry 12). -/
def cycle (s : State) : Host.Outcome State Fault Refusal :=
  match s.fetch with
  | none => s.attempt (.refused .listEnded)
  | some w =>
    match decode s.cfg.nAxes w with
    | .ok i => exec i s
    | .error _ => s.attempt (.refused (.illegalOp w))

/-- Where the `PROG` of a block with `n` axes holds an operation word, if it does (42_control_loop.md R160). -/
def progIndex (n : Nat) (w : OpWord) : Option Nat :=
  (List.range (n + 2)).find? (fun q => decide (encode (prog n q) = w))

/-- An input record in which nothing happens but the end of the sampling period. -/
def quietInput : Inputs :=
  { rst := false, halFail := false, periodElapsed := true, sel := 0, cnt0 := 0, cnt1 := 0, cnt2 := 0, cnt3 := 0 }

/-- The first fixed draw (a quiet one if there is none) with neither reset nor failure and with the period over. -/
def quietInputs : List Inputs → List Inputs
  | [] => [quietInput]
  | d :: rest => { d with rst := false, halFail := false, periodElapsed := true } :: rest

/-- The multiplier a sequencer past `SMUL` holds: the latched one, else the default (log entry 11). -/
def heldMult (p : Params) (q : Nat) (m : Option Nat) : Option Nat :=
  if q = 0 then m else some (m.getD p.multDefault)

/-- Select the position at which the next cycle issues `w`: the position in `PROG` that holds it, with the
multiplier latched as it is at every position after `SMUL`; for a word `PROG` does not hold, a model-only list of
that one word. The next draw is quiet and no fault stands (log entry 11). -/
def State.placeWord (s : State) (w : OpWord) : State :=
  let s := { s with fault := false, sleeping := false, inputs := quietInputs s.inputs }
  match progIndex s.cfg.nAxes w with
  | some q => { s with seq := q, opList := none, m := heldMult s.cfg q s.m }
  | none => { s with opList := some { words := [w], index := 0 } }

end Sys2Proof.Machine
end

