-- ==== Sys2Proof/Machine/Step.lean ====
section
/-! DEFINITION. The step of the machine, and the placing of an operation where the next step fetches it. -/

namespace Sys2Proof.Machine

/-- One step of the block (00_scope.md R12): one cycle of the sequencer. -/
def step (s : State) : Host.Outcome State Fault Refusal := cycle s

/-- The state in which the next step issues the word whose bits are `w`; the bits above `nbits` are zero. -/
def State.withFetchWord (s : State) (nbits w : Nat) : State := s.placeWord (BitVec.ofNat 8 (w % 2 ^ nbits))

end Sys2Proof.Machine
end

