-- ==== Sys2Proof/Machine/Assembler.lean ====
section
/-! DEFINITION. The assembler syntax of 30_encoding.md R81 and the pseudo-operation `ITER` of R82, on lines given
as lists of characters. Spaces and tabs separate words and an empty line is no operation (log entry 16). -/

namespace Sys2Proof.Machine

/-- A `;` starts a comment that runs to the end of the line (30_encoding.md R81). -/
def stripComment : List Char → List Char
  | [] => []
  | c :: rest => if c = ';' then [] else c :: stripComment rest

/-- A space or a tab separates words. -/
def isBlank (c : Char) : Bool := decide (c = ' ') || decide (c = '\t')

/-- Split a line at its blanks; `word` is the word read so far. -/
def splitWords (word : List Char) : List Char → List (List Char)
  | [] => if word = [] then [] else [word]
  | c :: rest =>
    if isBlank c then
      if word = [] then splitWords [] rest else word :: splitWords [] rest
    else splitWords (word ++ [c]) rest

/-- The spelling of `SMUL` (30_encoding.md R81). -/
def nameSmul : List Char := ['S', 'M', 'U', 'L']

/-- The spelling of `UPD` (30_encoding.md R81). -/
def nameUpd : List Char := ['U', 'P', 'D']

/-- The spelling of `WAIT` (30_encoding.md R81). -/
def nameWait : List Char := ['W', 'A', 'I', 'T']

/-- The spelling of the pseudo-operation `ITER` (30_encoding.md R82). -/
def nameIter : List Char := ['I', 'T', 'E', 'R']

/-- The decimal spelling of a 2-bit axis index. -/
def axisName (a : BitVec 2) : List Char := [Char.ofNat ('0'.toNat + a.toNat)]

/-- Read a decimal axis index of a block with `n` axes; any other index is a syntax error (30_encoding.md R81). -/
def readAxis (n : Nat) (word : List Char) : Option (BitVec 2) :=
  ([0, 1, 2, 3] : List (BitVec 2)).find? fun a => decide (word = axisName a) && decide (a.toNat < n)

/-- Read one line for a block with `n` axes: no operation, one operation, or the operations of `ITER`; none is a
syntax error (30_encoding.md R81, R82). `RUN` has no finite expansion and is no line (R83). -/
def parseLine (n : Nat) (line : List Char) : Option (List Instr) :=
  match splitWords [] (stripComment line) with
  | [] => some []
  | [w] =>
    if w = nameSmul then some [.smul]
    else if w = nameWait then some [.wait]
    else if w = nameIter then some (iter n)
    else none
  | [w, k] => if w = nameUpd then (readAxis n k).map fun a => [.upd a] else none
  | _ :: _ :: _ :: _ => none

/-- Read a program, one operation a line (30_encoding.md R81). -/
def parseProgram (n : Nat) : List (List Char) → Option (List Instr)
  | [] => some []
  | line :: rest =>
    match parseLine n line, parseProgram n rest with
    | some is, some js => some (is ++ js)
    | _, _ => none

/-- The text of an operation (30_encoding.md R81). -/
def printInstr : Instr → List Char
  | .smul => nameSmul
  | .upd a => nameUpd ++ [' '] ++ axisName a
  | .wait => nameWait

end Sys2Proof.Machine
end

