-- ==== Sys2Proof/Machine/Ports.lean ====
section
/-! DEFINITION. The output ports (10_state.md R33, R34): the levels as functions of the state, the strobes as
functions of the events of one step. `none` means that the model gives the port no value (log entry 20). -/

namespace Sys2Proof.Machine

/-- The level that means a direction: `FWD_LEVEL` for Forward, `1 - FWD_LEVEL` for Reverse (30_encoding.md R78). -/
def dirLevel (fwd : Level) : Dir → Level
  | .forward => fwd
  | .reverse => 1 - fwd

/-- `dir_o[a]` (10_state.md R34): no value before the axis's first commit and while a fault stands
(60_exceptions.md R222). -/
def State.dirO (s : State) (a : Nat) : Option Level :=
  if s.fault then none
  else
    match s.axisAt a with
    | some { prev := _, dir := some d, duty := some _ } => some (dirLevel s.cfg.fwdLevel d)
    | _ => none

/-- `duty_o[a]` (10_state.md R34): no value before the axis's first commit and while a fault stands. -/
def State.dutyO (s : State) (a : Nat) : Option Nat :=
  if s.fault then none
  else
    match s.axisAt a with
    | some { prev := _, dir := some _, duty := some u } => some u
    | _ => none

/-- The events a step from `s` to `t` added to the history. -/
def newEvents (s t : State) : List Event := t.history.drop s.history.length

/-- `commit_o[a]` during the step from `s` to `t`: whether a commit of axis `a` happened; no value once a fault
stands (10_state.md R33, 60_exceptions.md R222). -/
def commitO (s t : State) (a : Nat) : Option Bool :=
  if t.fault then none
  else some ((newEvents s t).any fun e =>
    match e with
    | .commit b _ _ => decide (b = a)
    | .selRead _ _ _ => false
    | .countRead _ _ => false
    | .sleep _ => false
    | .fault _ => false
    | .reset => false)

/-- `sleep_req` during the step from `s` to `t`: whether a sleep was requested; no value once a fault stands
(10_state.md R33, 60_exceptions.md R222). -/
def sleepReq (s t : State) : Option Bool :=
  if t.fault then none
  else some ((newEvents s t).any fun e =>
    match e with
    | .sleep _ => true
    | .selRead _ _ _ => false
    | .countRead _ _ => false
    | .commit _ _ _ => false
    | .fault _ => false
    | .reset => false)

end Sys2Proof.Machine
end

