-- ==== Sys2Proof/Safety.lean ====
section
/-! DEFINITION. The terms claims are stated in: which configurations are legal, when an operation runs to its own
effect, how far a completed operation moved the sequencer, the invariant of the block, one iteration as a function,
the end of an observed run, and the premises on the environment. -/

namespace Sys2Proof.Machine

/-! ### The configuration -/

/-- An integer of `w` signed bits (00_scope.md R9). -/
abbrev SignedRange (w : Nat) (x : Int) : Prop := -(2 ^ w) ≤ 2 * x ∧ 2 * x < 2 ^ w

/-- The legal values of the configuration constants (10_state.md R30, column "legal values"; `COUNT_W` and the free
`COUNT_LIMIT` are 00_scope.md R8's). `PERIOD_MS` is positive, `FWD_LEVEL` and `SEL_ACTIVE` are 0 or 1, by type. -/
abbrev ParamsLegal (p : Params) : Prop :=
  1 ≤ p.nAxes ∧ p.nAxes ≤ 4 ∧ p.countW = 16 ∧ p.resBits = 10 ∧ p.multTier1 = 10 ∧ p.multTier2 = 100 ∧
  p.multTier3 = 1000 ∧ p.multDefault = 10 ∧ SignedRange 16 p.prevReset

/-! ### Steps -/

/-- The coming step is an operation's own: no reset, no failure, no standing fault (42_control_loop.md R161, R166;
60_exceptions.md R225). -/
abbrev State.Running (s : State) : Prop :=
  s.draw.rst = false ∧ s.draw.halFail = false ∧ s.fault = false

/-- A draw with neither reset nor failure (70_reset_and_hazards.md R266). -/
abbrev PlainDraw (d : Inputs) : Prop := d.rst = false ∧ d.halFail = false

/-- Every count of a draw lies in the symmetric window of the counter: a premise a claim may state
(43_external_interfaces.md R191). -/
abbrev InWindow (p : Params) (d : Inputs) : Prop :=
  ∀ a, a < p.nAxes → -(p.countLimit : Int) ≤ countOn p d a ∧ countOn p d a ≤ p.countLimit

/-- The step from `s` to `t` took one draw. -/
abbrev State.TookDraw (s t : State) : Prop := t.inputs = s.inputs.tail ∧ t.drawn = s.drawn + 1

/-- The operation run from `s` completed in `t`: the sequencer moved on by one modulo `N_AXES + 2`, or in a
model-only list the list index did (42_control_loop.md R161, R170). -/
def State.AdvancedTo (s t : State) : Prop :=
  match s.opList with
  | none => t.opList = none ∧ t.seq = (s.seq + 1) % (s.cfg.nAxes + 2)
  | some l => t.seq = s.seq ∧ t.opList = some { words := l.words, index := l.index + 1 }

/-- The operation run from `s` has not completed in `t`: the sequencer stands where it stood. -/
abbrev State.StayedAt (s t : State) : Prop := t.seq = s.seq ∧ t.opList = s.opList

/-- `n` steps in a row, ending early where a step gives no next state. -/
def runSteps : Nat → State → Host.Outcome State Fault Refusal
  | 0, s => .next s
  | n + 1, s =>
    match step s with
    | .next t => runSteps n t
    | .fault r => .fault r
    | .refused r => .refused r

/-! ### The invariant -/

/-- What reset and every commit leave in an axis record: a previous count in range, direction and duty together, a
duty in range, Forward only with a nonzero duty, and a duty that is the clamp's limit or a multiple of 10
(10_state.md R22, R24; 20_memory.md R58; 40_axis_controller.md R104, R109, R112). -/
def Axis.Inv (p : Params) (r : Axis) : Prop :=
  SignedRange p.countW r.prev ∧ r.dir.isSome = r.duty.isSome ∧
  ∀ u, r.duty = some u →
    u ≤ dutyMax p ∧ (r.dir = some .forward → 0 < u) ∧ (u = dutyMax p ∨ 10 ∣ u)

/-- The invariant of the block: a legal configuration; one record for each axis, each as a commit or reset leaves it;
a sequencer index in range (10_state.md R21, R27); a latched multiplier that is one of the tiers (R26), and that is
there past `SMUL` (42_control_loop.md R160, 41_scale_selector.md R145); past `UPD a` axis `a` has committed
(70_reset_and_hazards.md R255); and the block holds only in a `WAIT` (42_control_loop.md R166). -/
def State.Inv (s : State) : Prop :=
  ParamsLegal s.cfg ∧ s.axes.length = s.cfg.nAxes ∧ s.seq < s.cfg.nAxes + 2 ∧
  (∀ r ∈ s.axes, r.Inv s.cfg) ∧
  (∀ m, s.m = some m → m = 10 ∨ m = 100 ∨ m = 1000) ∧
  (s.seq ≠ 0 → s.m.isSome = true) ∧
  (∀ a r, a + 1 < s.seq → s.axes[a]? = some r → r.dir.isSome = true) ∧
  (s.sleeping = true → s.fetch = some (encode .wait))

/-! ### Observation -/

/-- What a run is judged by (42_control_loop.md R169): the axis records, the latch, the fault bit and the ordered
event history. -/
structure Observation where
  axes : List Axis
  m : Option Nat
  fault : Bool
  history : List Event
  deriving DecidableEq, Repr

/-- The observation of a state, with the whole history. -/
def State.observe (s : State) : Observation :=
  { axes := s.axes, m := s.m, fault := s.fault, history := s.history }

/-- The run of an operation-word list `l` in `s` and the block's own run in `b` stand at the same place: all they
are observed by agrees, and the list's remaining words are the program's from `b.seq` on (42_control_loop.md
R170). -/
def State.ListFollows (s b : State) : Prop :=
  s.observe = b.observe ∧ s.cfg = b.cfg ∧ s.sleeping = b.sleeping ∧ s.inputs = b.inputs ∧ s.drawn = b.drawn ∧
  b.opList = none ∧ b.seq < b.cfg.nAxes + 2 ∧
  ∃ l, s.opList = some l ∧
    ∀ k w, l.words[l.index + k]? = some w →
      w = encode (prog b.cfg.nAxes ((b.seq + k) % (b.cfg.nAxes + 2)))

/-! ### One iteration -/

/-- What one iteration samples: the three select lines and a count for each axis (42_control_loop.md R167). -/
structure Samples where
  i1 : Bool
  i2 : Bool
  i3 : Bool
  counts : List Int
  deriving DecidableEq, Repr

/-- `m = SELECT(i1, i2, i3)` for the samples of an iteration (42_control_loop.md R167). -/
def Samples.mult (p : Params) (x : Samples) : Nat :=
  if x.i1 then p.multTier1 else if x.i2 then p.multTier2 else if x.i3 then p.multTier3 else p.multDefault

/-- `dir'[a]` of the iteration law (42_control_loop.md R167). -/
def iterationDir (r : Axis) (c : Int) : Dir := if c - r.prev > 0 then .forward else .reverse

/-- `duty'[a]` of the iteration law (42_control_loop.md R167). -/
def iterationDuty (p : Params) (m : Nat) (r : Axis) (c : Int) : Nat := min ((c - r.prev).natAbs * m) (2 ^ p.resBits - 1)

/-- `A'[a]` of the iteration law (42_control_loop.md R167). -/
def iterationAxis (p : Params) (m : Nat) (r : Axis) (c : Int) : Axis :=
  { prev := c, dir := some (iterationDir r c), duty := some (iterationDuty p m r c) }

/-- The events of the updates of one iteration, from axis `a` on (42_control_loop.md R167). -/
def iterationUpdates (p : Params) (m : Nat) : Nat → List Axis → List Int → List Event
  | a, r :: rs, c :: cs =>
    .countRead a c :: .commit a (iterationDir r c) (iterationDuty p m r c) :: iterationUpdates p m (a + 1) rs cs
  | _, [], _ => []
  | _, _ :: _, [] => []

/-- The iteration law as a function of what is observed before the iteration and of its samples (42_control_loop.md
R167): written from the rule, not from the operations. -/
def iterationResult (p : Params) (o : Observation) (x : Samples) : Observation :=
  { axes := List.zipWith (iterationAxis p (x.mult p)) o.axes x.counts
    m := some (x.mult p)
    fault := false
    history := o.history ++
      .selRead x.i1 x.i2 x.i3 :: (iterationUpdates p (x.mult p) 0 o.axes x.counts ++ [.sleep p.periodMs]) }

/-- The draws of one iteration: one for `SMUL`, one for each `UPD`, one for each step `WAIT` holds, and the one that
ends it. -/
structure IterationDraws where
  select : Inputs
  counts : List Inputs
  holds : List Inputs
  wake : Inputs
  deriving DecidableEq, Repr

/-- The draws of one iteration in order. -/
def IterationDraws.draws (x : IterationDraws) : List Inputs := x.select :: (x.counts ++ (x.holds ++ [x.wake]))

/-- The draws of one iteration of `n` axes that completes with no reset and no failure (42_control_loop.md R167). -/
abbrev IterationDraws.Completing (n : Nat) (x : IterationDraws) : Prop :=
  x.counts.length = n ∧ (∀ d ∈ x.draws, PlainDraw d) ∧ (∀ d ∈ x.holds, d.periodElapsed = false) ∧
  x.wake.periodElapsed = true

/-- What the operations of the iteration sample from its draws: `SMUL` the select lines, `UPD a` the count port `a`. -/
def IterationDraws.samples (p : Params) (x : IterationDraws) : Samples :=
  { i1 := x.select.sel.getLsbD 0
    i2 := x.select.sel.getLsbD 1
    i3 := x.select.sel.getLsbD 2
    counts := x.counts.mapIdx fun a d => countOn p d a }

/-- The block stands between two iterations, as reset leaves it and as every completed iteration does. -/
abbrev State.AtIterationStart (s : State) : Prop :=
  s.seq = 0 ∧ s.opList = none ∧ s.fault = false ∧ s.sleeping = false ∧ s.axes.length = s.cfg.nAxes ∧ s.cfg.nAxes ≤ 4

/-! ### The end of a run and fairness -/

/-- When the block runs, the coming step completes a `WAIT` (42_control_loop.md R162). -/
def State.completesWait (s : State) : Bool :=
  decide (s.fetch = some (encode .wait)) && s.draw.periodElapsed

/-- The end of a run observed for `k` iterations: the state in which the `k`-th `WAIT` counted from `s` has just
completed, if that happens within `fuel` steps; none where a `rst`, a `hal_fail` or a refusal comes first (42_control_loop.md
R169, log entry 22). -/
def iterationsEnd : Nat → Nat → State → Option State
  | _, 0, s => some s
  | 0, _ + 1, _ => none
  | fuel + 1, k + 1, s =>
    if s.Running then
      match step s with
      | .next t => iterationsEnd fuel (if s.completesWait then k else k + 1) t
      | .fault _ => none
      | .refused _ => none
    else none

/-- How many of the first `n` steps of the block's own run from `s` took the sequencer from `WAIT` round to `SMUL`
(42_control_loop.md R161, R162). -/
def waitsCompleted : Nat → State → Nat
  | 0, _ => 0
  | n + 1, s =>
    match step s with
    | .next t => (if s.seq = s.cfg.nAxes + 1 ∧ t.seq = 0 then 1 else 0) + waitsCompleted n t
    | .fault _ => 0
    | .refused _ => 0

/-- What a run from `s` that ends in `t` is observed to be: the state at its end and the events of the run alone
(42_control_loop.md R169). -/
def observeRun (s t : State) : Observation :=
  { axes := t.axes, m := t.m, fault := t.fault, history := newEvents s t }

/-- The block in the environment `env`, its next `n` draws fixed: draw number `i` is what the environment presents to
step number `i` from here (43_external_interfaces.md R199). -/
def State.facing (s : State) (env : Nat → Inputs) (n : Nat) : State := { s with inputs := (List.range n).map env }

/-- Weak fairness of the environment `env` towards the block `s`: `rst` and `hal_fail` stay deasserted, and whenever
the block is in a `WAIT`, `period_elapsed` is raised then or later (70_reset_and_hazards.md R266, log entry 23). -/
def WeaklyFair (s : State) (env : Nat → Inputs) : Prop :=
  (∀ n, PlainDraw (env n)) ∧
  ∀ n t, runSteps n (s.facing env n) = .next t → t.fetch = some (encode .wait) →
    ∃ j, n ≤ j ∧ (env j).periodElapsed = true

end Sys2Proof.Machine
end

