-- ==== Sys2Proof/Certificates/Slice0/Obligations.lean ====
section
/-! DEFINITION. The statements for the provers. Each docstring names the rules of spec/ it formalises, and the log
entries where a clause rests on the model's own choice. A statement holds for every configuration unless it names
`ParamsLegal`, the legal values of 10_state.md R30, under which the numbers are the document's. -/

open Sys2Proof Sys2Proof.Machine

/-! ### Encoding -/

/-- 30_encoding.md R74: the five legal words of a block with three axes, what each is, and that there is no sixth. -/
def Obligations.LegalWordsAreExactlyFive : Prop :=
  decode 3 0x00#8 = .ok .smul ∧ decode 3 0x40#8 = .ok (.upd 0) ∧ decode 3 0x41#8 = .ok (.upd 1) ∧
  decode 3 0x42#8 = .ok (.upd 2) ∧ decode 3 0x80#8 = .ok .wait ∧
  ∀ (w : OpWord) (i : Instr), decode 3 w = .ok i →
    w = 0x00#8 ∨ w = 0x40#8 ∨ w = 0x41#8 ∨ w = 0x42#8 ∨ w = 0x80#8

/-- 30_encoding.md R75: which words are illegal with three axes, how many, that the program holds none of them for
any number of axes, and that a step which fetches an illegal word refuses it with the word. -/
def Obligations.EveryOtherWordIsIllegal : Prop :=
  (∀ w : OpWord, decode 3 w = .error (.illegalOp w) ↔
    (w = 0x43#8 ∨ (w.toNat / 4) % 16 ≠ 0 ∨ (1 ≤ w.toNat ∧ w.toNat ≤ 3) ∨
      (0x81 ≤ w.toNat ∧ w.toNat ≤ 0x83) ∨ 0xC0 ≤ w.toNat)) ∧
  ((List.range 256).filter fun n =>
    decide (decode 3 (BitVec.ofNat 8 n) = .error (.illegalOp (BitVec.ofNat 8 n)))).length = 251 ∧
  (∀ n q : Nat, decode n (encode (prog n q)) = .ok (prog n q)) ∧
  ∀ (s : State) (w : OpWord), s.Running → s.fetch = some w → decode s.cfg.nAxes w = .error (.illegalOp w) →
    step s = .refused (.illegalOp w)

/-- 30_encoding.md R70, R72, R73: decoding the encoded words of any list of well-formed operations gives the list
back, with every operand at every value, for every number of axes. -/
def Obligations.DecodingEncodedOperationsGivesThemBack : Prop :=
  ∀ (n : Nat) (is : List Instr), (∀ i ∈ is, i.wellFormed n = true) → decodeAll n (is.map encode) = .ok is

/-- 30_encoding.md R74: a word that decodes is the word of the operation it decodes to. -/
def Obligations.DecodedWordReencodes : Prop :=
  ∀ (n : Nat) (w : OpWord) (i : Instr), decode n w = .ok i → i.wellFormed n = true ∧ encode i = w

/-- 30_encoding.md R81: the assembler reads back the text of every operation, with or without a comment after it,
and `UPD` with an axis that does not exist is a syntax error. How blanks separate words is the model's choice (log
entry 16). -/
def Obligations.AssemblerReadsBackEveryOperation : Prop :=
  (∀ (n : Nat) (i : Instr), i.wellFormed n = true → parseLine n (printInstr i) = some [i]) ∧
  (∀ (n : Nat) (i : Instr) (comment : List Char), i.wellFormed n = true →
    parseLine n (printInstr i ++ ';' :: comment) = some [i]) ∧
  ∀ (n : Nat) (a : BitVec 2), n ≤ a.toNat → parseLine n (printInstr (.upd a)) = none

/-- 42_control_loop.md R160: the fixed program, operation by operation, and as words for three axes;
30_encoding.md R82: it is one `ITER`. That `ITER` is accepted as a line is the model's choice (log entry 16). -/
def Obligations.FixedProgramIsOneIteration : Prop :=
  (∀ n : Nat, prog n 0 = .smul ∧ (∀ a, a < n → prog n (1 + a) = .upd (BitVec.ofNat 2 a)) ∧
    prog n (n + 1) = .wait) ∧
  (iter 3).map encode = [0x00#8, 0x40#8, 0x41#8, 0x42#8, 0x80#8] ∧
  ∀ n : Nat, iter n = (List.range (n + 2)).map (prog n) ∧ parseLine n nameIter = some (iter n)

/-! ### The pure functions -/

/-- 40_axis_controller.md R101: direction and magnitude of every velocity, zero being Reverse. -/
def Obligations.DirectionAndMagnitudeOfVelocity : Prop :=
  ∀ v : Int, -65535 ≤ v → v ≤ 65535 →
    (v > 0 → dirMag v = (.forward, v.natAbs)) ∧ (v ≤ 0 → dirMag v = (.reverse, v.natAbs)) ∧
    (dirMag v).2 ≤ 65535

/-- 40_axis_controller.md R100, 70_reset_and_hazards.md R257: the velocity is the exact difference of the counts, also
where a 16-bit subtraction wraps (95_test_vectors.md A13); it lies in 17 signed bits, agrees with the 16-bit
subtraction exactly when the difference fits 16 signed bits, and so for counts within 16383 either way; counts in the
window of 43_external_interfaces.md R191 give at most twice the window. -/
def Obligations.VelocityIsExact : Prop :=
  (∀ c p : Int, delta c p = c - p) ∧
  (∀ c p : Int, SignedRange 16 c → SignedRange 16 p →
    (-65535 ≤ delta c p ∧ delta c p ≤ 65535) ∧
    (delta c p = signedWord 16 (c - p) ↔ -32768 ≤ c - p ∧ c - p ≤ 32767) ∧
    (-16383 ≤ c ∧ c ≤ 16383 → -16383 ≤ p ∧ p ≤ 16383 → delta c p = signedWord 16 (c - p))) ∧
  delta 32767 (-32768) = 65535 ∧ delta (-32768) 32767 = -65535 ∧
  delta 20000 (-20000) = 40000 ∧ signedWord 16 (20000 - (-20000)) = -25536 ∧
  ∀ (p : Params) (d : Inputs) (a : Nat) (prev : Int), a < p.nAxes → InWindow p d →
    (-(p.countLimit : Int) ≤ prev ∧ prev ≤ p.countLimit) → (delta (countOn p d a) prev).natAbs ≤ 2 * p.countLimit

/-- 00_scope.md R10, 30_encoding.md R80, 43_external_interfaces.md R191: a count read is the two's complement value of
the port's 16-bit word, any `Int16`. -/
def Obligations.CountPortIsTwosComplement : Prop :=
  (∀ w : Int, 0 ≤ w → w < 65536 → signedWord 16 w = if 32768 ≤ w then w - 65536 else w) ∧
  ∀ (p : Params) (d : Inputs) (a : Nat), ParamsLegal p →
    SignedRange 16 (countOn p d a) ∧ (countOn p d a - portCount d a) % 65536 = 0 ∧
    (SignedRange 16 (portCount d a) → countOn p d a = portCount d a)

/-- 40_axis_controller.md R102: the product is exact and fits 26 unsigned bits. -/
def Obligations.ProductIsExactAndFits : Prop :=
  ∀ mag m : Nat, mag ≤ 65535 → (m = 10 ∨ m = 100 ∨ m = 1000) →
    scale mag m = mag * m ∧ scale mag m ≤ 65535000 ∧ scale mag m < 2 ^ 26

/-- 40_axis_controller.md R104: the composition law. -/
def Obligations.DutyIsClampedScaledSpeed : Prop :=
  ∀ (p : Params) (v : Int) (m : Nat),
    sat p (scale (dirMag v).2 m) = min (v.natAbs * m) (dutyMax p) ∧
    (p.resBits = 10 → sat p (scale (dirMag v).2 m) = min (v.natAbs * m) 1023) ∧
    ((dirMag v).1 = .forward ↔ v > 0)

/-- 40_axis_controller.md R112: the saturation thresholds. -/
def Obligations.SaturationThresholds : Prop :=
  ∀ (p : Params) (c prev : Int) (m : Nat), ParamsLegal p → (m = 10 ∨ m = 100 ∨ m = 1000) →
    (commandedDuty p c prev m = 1023 ↔ 1024 ≤ (delta c prev).natAbs * m) ∧
    ((delta c prev).natAbs * m < 1024 →
      commandedDuty p c prev m = (delta c prev).natAbs * m ∧ commandedDuty p c prev m < 1023) ∧
    (m = 10 → (commandedDuty p c prev m < 1023 ↔ (delta c prev).natAbs ≤ 102)) ∧
    (m = 100 → (commandedDuty p c prev m < 1023 ↔ (delta c prev).natAbs ≤ 10)) ∧
    (m = 1000 → (commandedDuty p c prev m < 1023 ↔ (delta c prev).natAbs ≤ 1))

/-- 41_scale_selector.md R140 to R142: SELECT for every configuration, and with the document's numbers. -/
def Obligations.SelectIsFirstMatch : Prop :=
  ∀ (p : Params) (i1 i2 i3 : Bool),
    select p i1 i2 i3 =
      (if i1 then p.multTier1 else if i2 then p.multTier2 else if i3 then p.multTier3 else p.multDefault) ∧
    (ParamsLegal p → select p i1 i2 i3 = if i1 then 10 else if i2 then 100 else if i3 then 1000 else 10)

/-! ### SMUL -/

/-- 41_scale_selector.md R144: `SMUL` completes whenever nothing stands in its way, latches the selected multiplier
over whatever was latched, and leaves the rest; 60_exceptions.md R222: with `hal_fail` it takes the fault. That the
fault is a next state is the model's choice (log entry 6). -/
def Obligations.SmulLatchesTheSelectedMultiplier : Prop :=
  (∀ s : State, s.Running → ∃ (t : State) (m : Nat), exec .smul s = .next t ∧ t.m = some m ∧
    m = (if s.draw.sel.getLsbD 0 then s.cfg.multTier1 else if s.draw.sel.getLsbD 1 then s.cfg.multTier2
      else if s.draw.sel.getLsbD 2 then s.cfg.multTier3 else s.cfg.multDefault) ∧
    (ParamsLegal s.cfg → m = if s.draw.sel.getLsbD 0 then 10 else if s.draw.sel.getLsbD 1 then 100
      else if s.draw.sel.getLsbD 2 then 1000 else 10) ∧
    t.history = s.history ++
      [.selRead (s.draw.sel.getLsbD 0) (s.draw.sel.getLsbD 1) (s.draw.sel.getLsbD 2)] ∧
    s.AdvancedTo t ∧ s.TookDraw t ∧
    t.axes = s.axes ∧ t.cfg = s.cfg ∧ t.fault = s.fault ∧ t.sleeping = s.sleeping ∧
    ∀ a : Nat, t.dirO a = s.dirO a ∧ t.dutyO a = s.dutyO a) ∧
  (∀ s : State, s.draw.rst = false → s.fault = false → s.draw.halFail = true →
    ∃ t : State, exec .smul s = .next t ∧ t.fault = true ∧ t.m = s.m ∧ t.seq = s.seq ∧ t.axes = s.axes ∧
      t.history = s.history ++ [.fault .halFailure])

/-- 43_external_interfaces.md R192, 10_state.md R32: with the port word that three electrical levels give, `SMUL`
takes the first line at the level `SEL_ACTIVE`, for either polarity. -/
def Obligations.SelectPolarityIsNormalised : Prop :=
  ∀ (s : State) (levels : BitVec 3), s.Running → s.draw.sel = selWord s.cfg levels →
    ∃ t : State, exec .smul s = .next t ∧
      t.m = some (if levels.extractLsb' 0 1 = s.cfg.selActive then s.cfg.multTier1
        else if levels.extractLsb' 1 1 = s.cfg.selActive then s.cfg.multTier2
        else if levels.extractLsb' 2 1 = s.cfg.selActive then s.cfg.multTier3 else s.cfg.multDefault)

/-! ### UPD -/

/-- 40_axis_controller.md R105, R106, R109, R110: `UPD a` completes whenever nothing stands in its way, the axis
exists and a multiplier is latched, and then the record holds the new count, Forward exactly for a positive
velocity, and the clamped product; an axis that does not exist and an empty latch are refused, in that order;
60_exceptions.md R222: an update that would complete takes the fault with `hal_fail`. That the fault is a next state is
the model's choice (log entry 6). -/
def Obligations.UpdCommitsTheScaledVelocity : Prop :=
  (∀ (s : State) (a : BitVec 2) (r : Axis) (m : Nat), s.Running → s.axisAt a.toNat = some r → s.m = some m →
    ∃ (t : State) (c v : Int) (u : Nat), exec (.upd a) s = .next t ∧
      c = s.readCount a.toNat ∧ v = c - r.prev ∧ u = min (v.natAbs * m) (dutyMax s.cfg) ∧
      (ParamsLegal s.cfg → u = min (v.natAbs * m) 1023 ∧ SignedRange 16 c) ∧
      t.axes[a.toNat]? = some { prev := c, dir := some (if v > 0 then .forward else .reverse), duty := some u } ∧
      t.history = s.history ++
        [.countRead a.toNat c, .commit a.toNat (if v > 0 then .forward else .reverse) u] ∧
      s.AdvancedTo t ∧ s.TookDraw t) ∧
  (∀ (s : State) (a : BitVec 2), s.Running → s.cfg.nAxes ≤ a.toNat →
    exec (.upd a) s = .refused (.illegalOp (encode (.upd a)))) ∧
  (∀ s : State, s.Running → s.cfg.nAxes = 3 → exec (.upd 3) s = .refused (.illegalOp 0x43#8)) ∧
  (∀ (s : State) (a : BitVec 2) (r : Axis), s.Running → s.axisAt a.toNat = some r → s.m = none →
    exec (.upd a) s = .refused (.noMultiplier a.toNat)) ∧
  (∀ (s : State) (a : BitVec 2) (r : Axis) (m : Nat), s.axisAt a.toNat = some r → s.m = some m →
    s.draw.rst = false → s.fault = false → s.draw.halFail = true →
    ∃ t : State, exec (.upd a) s = .next t ∧ t.fault = true ∧ t.m = s.m ∧ t.seq = s.seq ∧ t.axes = s.axes ∧
      t.history = s.history ++ [.fault .halFailure])

/-- 20_memory.md R61, 10_state.md R21: `UPD a` leaves every other axis, the number of axes, the latch, the
configuration and the other axes' outputs as they were. -/
def Obligations.UpdTouchesItsAxisOnly : Prop :=
  ∀ (s t : State) (a : BitVec 2), s.Running → exec (.upd a) s = .next t →
    (∀ b : Nat, b ≠ a.toNat →
      t.axes[b]? = s.axes[b]? ∧ t.dirO b = s.dirO b ∧ t.dutyO b = s.dutyO b) ∧
    t.axes.length = s.axes.length ∧
    t.m = s.m ∧ t.cfg = s.cfg ∧ t.fault = s.fault ∧ t.sleeping = s.sleeping

/-- 40_axis_controller.md R108: a second update of the same axis with the same count commits Reverse and zero,
whatever happened to other axes in between. -/
def Obligations.RepeatedCountStopsTheAxis : Prop :=
  ∀ (s t r : State) (a : BitVec 2), s.Running → exec (.upd a) s = .next t →
    r.Running → r.m.isSome = true → r.cfg = t.cfg → r.axes[a.toNat]? = t.axes[a.toNat]? →
    r.readCount a.toNat = s.readCount a.toNat →
    ∃ w : State, exec (.upd a) r = .next w ∧
      w.axes[a.toNat]? = some { prev := s.readCount a.toNat, dir := some .reverse, duty := some 0 }

/-- 40_axis_controller.md R113: how the committed duty and direction depend on speed, sign and multiplier, in one
configuration. -/
def Obligations.DutyIsMonotoneAndSignFree : Prop :=
  ∀ (s s' t t' : State) (a : BitVec 2) (m m' : Nat) (r r' x x' : Axis) (u u' : Nat) (v v' : Int),
    s.Running → s'.Running → s'.cfg = s.cfg → s.m = some m → s'.m = some m' →
    exec (.upd a) s = .next t → exec (.upd a) s' = .next t' →
    s.axes[a.toNat]? = some r → s'.axes[a.toNat]? = some r' →
    t.axes[a.toNat]? = some x → t'.axes[a.toNat]? = some x' → x.duty = some u → x'.duty = some u' →
    v = s.readCount a.toNat - r.prev → v' = s'.readCount a.toNat - r'.prev →
    (v.natAbs = v'.natAbs → m = m' → u = u') ∧
    (v.natAbs ≤ v'.natAbs → m ≤ m' → u ≤ u') ∧
    (v = v' → x.dir = x'.dir) ∧
    (v' = -v → v ≠ 0 → x.dir ≠ x'.dir)

/-- 20_memory.md R61, 42_control_loop.md R168: two updates of different axes give the same axes and outputs in either
order, each reading the same count. -/
def Obligations.UpdatesOfDifferentAxesCommute : Prop :=
  ∀ (s : State) (a b : BitVec 2) (d e : Inputs) (rest : List Inputs),
    (s.axisAt a.toNat).isSome = true → (s.axisAt b.toNat).isSome = true → a ≠ b →
    s.m.isSome = true → s.fault = false → PlainDraw d → PlainDraw e →
    ∃ p q p' q' : State,
      exec (.upd a) { s with inputs := d :: e :: rest } = .next p ∧ exec (.upd b) p = .next q ∧
      exec (.upd b) { s with inputs := e :: d :: rest } = .next p' ∧ exec (.upd a) p' = .next q' ∧
      q.axes = q'.axes ∧ q.m = q'.m ∧ q.seq = q'.seq ∧ q.fault = q'.fault ∧
      (∀ x : Nat, q.dirO x = q'.dirO x ∧ q.dutyO x = q'.dutyO x) ∧ q.history.Perm q'.history

/-! ### WAIT -/

/-- 42_control_loop.md R162: with the period over `WAIT` completes, with one `Sleep` event in all, and changes no axis
and no output. The bit `sleeping`, by which the event is emitted once, is the model's (log entry 5). -/
def Obligations.WaitCompletesWhenThePeriodIsOver : Prop :=
  ∀ s : State, s.Running → s.draw.periodElapsed = true →
    ∃ t : State, exec .wait s = .next t ∧ s.AdvancedTo t ∧ s.TookDraw t ∧ t.sleeping = false ∧
      t.history = s.history ++ (if s.sleeping then [] else [.sleep s.cfg.periodMs]) ∧
      t.axes = s.axes ∧ t.m = s.m ∧ t.cfg = s.cfg ∧ t.fault = s.fault ∧
      ∀ a : Nat, t.dirO a = s.dirO a ∧ t.dutyO a = s.dutyO a

/-- 42_control_loop.md R162: without `period_elapsed` `WAIT` does not complete; it requests its one sleep and holds.
That a hold is a next state, with the bit `sleeping`, is the model's rendering (log entry 5). -/
def Obligations.WaitHoldsWithoutThePeriod : Prop :=
  ∀ s : State, s.Running → s.draw.periodElapsed = false →
    ∃ t : State, exec .wait s = .next t ∧ s.StayedAt t ∧ s.TookDraw t ∧ t.sleeping = true ∧
      t.history = s.history ++ (if s.sleeping then [] else [.sleep s.cfg.periodMs]) ∧
      t.axes = s.axes ∧ t.m = s.m ∧ t.cfg = s.cfg ∧ t.fault = s.fault ∧
      ∀ a : Nat, t.dirO a = s.dirO a ∧ t.dutyO a = s.dutyO a

/-- 42_control_loop.md R162 corner 1, 70_reset_and_hazards.md R266: without the fairness premise, however long
`period_elapsed` stays away, the block stays in `WAIT`, having requested one sleep. The holding steps are the model's
rendering (log entry 5). -/
def Obligations.WaitHangsWhenTheClockFails : Prop :=
  ∀ (s : State) (d : Inputs) (ds rest : List Inputs), s.opList = none → s.seq = s.cfg.nAxes + 1 → s.fault = false →
    s.inputs = d :: ds ++ rest → (∀ x ∈ d :: ds, PlainDraw x ∧ x.periodElapsed = false) →
    ∃ t : State, runSteps (ds.length + 1) s = .next t ∧ t.seq = s.cfg.nAxes + 1 ∧ t.opList = none ∧
      t.sleeping = true ∧ t.inputs = rest ∧ t.axes = s.axes ∧ t.m = s.m ∧ t.cfg = s.cfg ∧ t.fault = false ∧
      t.history = s.history ++ (if s.sleeping then [] else [.sleep s.cfg.periodMs])

/-- 42_control_loop.md R162 corner 2: `period_elapsed` means nothing to `SMUL` and `UPD`, and nothing of it is
remembered. -/
def Obligations.StrayPeriodElapsedIsIgnored : Prop :=
  ∀ (i : Instr) (s : State) (d : Inputs) (rest : List Inputs) (b : Bool), i ≠ .wait →
    exec i { s with inputs := { d with periodElapsed := b } :: rest } = exec i { s with inputs := d :: rest }

/-! ### The sequencer -/

/-- 42_control_loop.md R161, R170: a step is the meaning of the operation the sequencer, or the list index, is at, and
nothing is added around it. Lists are held as the model chose (log entry 10). -/
def Obligations.StepRunsTheFetchedOperation : Prop :=
  (∀ s : State, s.opList = none → step s = exec (prog s.cfg.nAxes s.seq) s) ∧
  (∀ (s : State) (l : OpList) (i : Instr), s.opList = some l → i.wellFormed s.cfg.nAxes = true →
    l.words[l.index]? = some (encode i) → step s = exec i s)

/-- 42_control_loop.md R170: a model-only list is finite. That the step after its last word is refused under a name
of its own is the model's choice (log entry 10). -/
def Obligations.EndedListIsRefused : Prop :=
  ∀ (s : State) (l : OpList), s.Running → s.opList = some l → l.words.length ≤ l.index →
    step s = .refused .listEnded

/-- 42_control_loop.md R170: a list of operation words that is what `PROG` issues from `seq` on does what the block
does, as far as a run is observed. How a list is held and the relation are the model's (log entry 10, Safety.lean). -/
def Obligations.OperationListFollowsTheBlock : Prop :=
  ∀ s b s' : State, s.ListFollows b → b.draw.rst = false → step s = .next s' →
    ∃ b' : State, step b = .next b' ∧ s'.ListFollows b'

/-- 42_control_loop.md R167: one iteration as one function of the select sample, the counts and the previous counts,
with any number of holds in its `WAIT`: the state after it and the events it adds are those of `iterationResult`,
which is written from the rule. It starts where the model's own fields are idle (log entries 5, 10). -/
def Obligations.IterationLaw : Prop :=
  ∀ (s : State) (x : IterationDraws) (rest : List Inputs),
    s.AtIterationStart → x.Completing s.cfg.nAxes → s.inputs = x.draws ++ rest →
    ∃ t : State, runSteps x.draws.length s = .next t ∧
      t.observe = iterationResult s.cfg s.observe (x.samples s.cfg) ∧
      t.AtIterationStart ∧ t.cfg = s.cfg ∧ t.inputs = rest

/-- 70_reset_and_hazards.md R255: after an iteration that completed every output is driven, and an undriven output
becomes driven in `UPD a` alone. That 'undriven' is none is the model's rendering (log entry 20). -/
def Obligations.OutputsAreDrivenAfterTheFirstIteration : Prop :=
  (∀ (s t : State) (x : IterationDraws) (rest : List Inputs),
    s.AtIterationStart → x.Completing s.cfg.nAxes → s.inputs = x.draws ++ rest →
    runSteps x.draws.length s = .next t →
    ∀ a : Nat, a < s.cfg.nAxes → (t.dirO a).isSome = true ∧ (t.dutyO a).isSome = true) ∧
  ∀ (s t : State) (a : Nat), step s = .next t →
    (s.dirO a = none → (t.dirO a).isSome = true → s.fetch = some (encode (.upd (BitVec.ofNat 2 a)))) ∧
    (s.dutyO a = none → (t.dutyO a).isSome = true → s.fetch = some (encode (.upd (BitVec.ofNat 2 a))))

/-! ### The end of a run and fairness -/

/-- 42_control_loop.md R169: the end of a run of the block observed for `k` iterations is reached by `n` steps within
the fuel exactly when each of them is an operation's own and the `n`-th is the first after which the sequencer has gone
round from `WAIT` to `SMUL` `k` times; from one iteration on it stands at `seq` = 0 there. A run into which a reset or
a failure falls has no end from then on: log entry 22. The holding steps of a `WAIT` count among the `n` by log
entry 5. -/
def Obligations.RunEndsAtItsLastCompletedWait : Prop :=
  ∀ (fuel k : Nat) (s t : State), s.opList = none → s.seq < s.cfg.nAxes + 2 →
    (iterationsEnd fuel k s = some t ↔
      ∃ n : Nat, n ≤ fuel ∧ runSteps n s = .next t ∧ (∀ i u, i < n → runSteps i s = .next u → u.Running) ∧
        waitsCompleted n s = k ∧ ∀ i, i < n → waitsCompleted i s < k) ∧
    (iterationsEnd fuel (k + 1) s = some t → t.seq = 0 ∧ t.opList = none ∧ t.fault = false)

/-- 42_control_loop.md R169, R167: a run observed for `k` iterations ends with `seq` = 0, and what is observed, the
state and the events of the run alone, is the iteration law applied once for each of the `k` iterations, to samples
that the events of the run record. It starts between two iterations, as reset leaves the block (log entries 5, 10,
22). -/
def Obligations.ObservedRunIsTheIterationLawRepeated : Prop :=
  ∀ (fuel k : Nat) (s t : State), s.AtIterationStart → iterationsEnd fuel k s = some t →
    t.AtIterationStart ∧ t.cfg = s.cfg ∧
    ∃ xs : List Samples, xs.length = k ∧ (∀ x ∈ xs, x.counts.length = s.cfg.nAxes) ∧
      observeRun s t = xs.foldl (iterationResult s.cfg) { s.observe with history := [] } ∧
      (newEvents s t).filter (fun e => decide (e = .sleep s.cfg.periodMs)) = List.replicate k (.sleep s.cfg.periodMs)

/-- 70_reset_and_hazards.md R266: in every environment that is weakly fair to the block, `k` iterations complete, for
every `k`, from every state of the block that meets the invariant with no fault standing. The premise is the model's
reading of the rule (log entry 23). -/
def Obligations.FairEnvironmentCompletesEveryIteration : Prop :=
  ∀ (s : State) (env : Nat → Inputs) (k : Nat), s.Inv → s.opList = none → s.fault = false → WeaklyFair s env →
    ∃ (n : Nat) (t : State), iterationsEnd n k (s.facing env n) = some t

/-! ### Failure and reset -/

/-- 60_exceptions.md R222, R225: `hal_fail` stops any step from completing, whatever was fetched; the bit is set, the
event recorded, the block's state kept, and the outputs have no value. That the step answers a next state is log
entry 6; that a failure on entry to `WAIT` records no `Sleep` is log entry 7; that it comes before every refusal is
log entry 12; that a port without a value is none is log entry 20. -/
def Obligations.FailureStopsEveryStep : Prop :=
  ∀ s : State, s.draw.rst = false → s.fault = false → s.draw.halFail = true →
    ∃ t : State, step s = .next t ∧ (∀ i : Instr, exec i s = .next t) ∧ t.fault = true ∧
      t.history = s.history ++ [.fault .halFailure] ∧ t.seq = s.seq ∧ t.axes = s.axes ∧ t.m = s.m ∧
      t.cfg = s.cfg ∧ t.opList = s.opList ∧ t.sleeping = s.sleeping ∧ s.TookDraw t ∧
      sleepReq s t = none ∧ ∀ a : Nat, t.dirO a = none ∧ t.dutyO a = none ∧ commitO s t a = none

/-- 10_state.md R28: the fault bit is set by a failure and cleared by reset alone, and while it is set no operation
has a step: the first clause renders that as a step that only takes a draw, the model's choice (log entry 6). -/
def Obligations.FaultIsStickyUntilReset : Prop :=
  (∀ s : State, s.fault = true → s.draw.rst = false →
    ∃ t : State, step s = .next t ∧ (∀ i : Instr, exec i s = .next t) ∧
      t = { s with inputs := s.inputs.tail, drawn := s.drawn + 1 }) ∧
  (∀ s t : State, step s = .next t → s.fault = true → t.fault = false → s.draw.rst = true) ∧
  (∀ s t : State, step s = .next t → s.fault = false → t.fault = true → s.draw.halFail = true)

/-- 70_reset_and_hazards.md R250, R251, 10_state.md R35: reset dominates in every state and during every operation,
gives every piece of state its reset value, and leaves the outputs undriven. That reset is taken as a step is log
entry 13; that each such step records one `Reset`, drops a model-only list and ends a hold is log entry 8; that
'undriven' is none is log entry 20. -/
def Obligations.ResetDominatesEverything : Prop :=
  ∀ s : State, s.draw.rst = true →
    ∃ t : State, step s = .next t ∧ (∀ i : Instr, exec i s = .next t) ∧
      t.axes = List.replicate s.cfg.nAxes { prev := s.cfg.prevReset, dir := none, duty := none } ∧
      t.m = none ∧ t.seq = 0 ∧ t.fault = false ∧ t.sleeping = false ∧ t.opList = none ∧ t.cfg = s.cfg ∧
      t.history = s.history ++ [.reset] ∧ s.TookDraw t ∧
      sleepReq s t = some false ∧ (∀ a : Nat, t.dirO a = none ∧ t.dutyO a = none) ∧
      (s.cfg = Params.reference → t.axes = State.reset.axes ∧ t.m = State.reset.m ∧ t.seq = State.reset.seq ∧
        t.fault = State.reset.fault)

/-- 10_state.md R35: what reset leaves, in the reference configuration. -/
def Obligations.ResetStateHasTheResetValues : Prop :=
  State.reset.axes = List.replicate 3 { prev := 0, dir := none, duty := none } ∧
  State.reset.m = none ∧ State.reset.seq = 0 ∧ State.reset.fault = false ∧ State.reset.cfg = Params.reference

/-- 00_scope.md R8, 10_state.md R30, 93_implementation_defined.md I9: the reference value of every constant, each a
field of the configuration, that they are legal, and that every legal configuration has `DUTY_MAX` = 1023. That the
reference leaves `FWD_LEVEL` and `SEL_ACTIVE` to constants with no body is log entry 4, and that 10000 stands for the
open `COUNT_LIMIT` is log entry 21. -/
def Obligations.ReferenceConfigurationIsTheDocuments : Prop :=
  Params.reference =
    { nAxes := 3, countW := 16, countLimit := 10000, resBits := 10, multTier1 := 10, multTier2 := 100,
      multTier3 := 1000, multDefault := 10, periodMs := 100, prevReset := 0,
      fwdLevel := Config.fwdLevel, selActive := Config.selActive } ∧
  ParamsLegal Params.reference ∧
  (∀ p : Params, dutyMax p = 2 ^ p.resBits - 1 ∧ (ParamsLegal p → dutyMax p = 1023) ∧ 0 < (p.periodMs : Nat))

/-- 70_reset_and_hazards.md R250, R252, R254, 42_control_loop.md R165: after reset comes `SMUL` with no sleep before
it, and the first `UPD 0` measures from `PREV_RESET`. From any state: a model-only list is dropped and one `Reset` is
recorded by the reset step, both of them log entry 8; reset as a step is log entry 13. -/
def Obligations.FirstIterationAfterReset : Prop :=
  ∀ (s : State) (d0 d1 d2 : Inputs) (rest : List Inputs), s.inputs = d0 :: d1 :: d2 :: rest →
    1 ≤ s.cfg.nAxes → d0.rst = true → PlainDraw d1 → PlainDraw d2 →
    ∃ (t : State) (c v : Int) (m u : Nat), runSteps 3 s = .next t ∧
      c = countOn s.cfg d2 0 ∧ v = c - s.cfg.prevReset ∧
      m = (if d1.sel.getLsbD 0 then s.cfg.multTier1 else if d1.sel.getLsbD 1 then s.cfg.multTier2
        else if d1.sel.getLsbD 2 then s.cfg.multTier3 else s.cfg.multDefault) ∧
      u = min (v.natAbs * m) (dutyMax s.cfg) ∧
      t.axes[0]? = some { prev := c, dir := some (if v > 0 then .forward else .reverse), duty := some u } ∧
      t.m = some m ∧ t.seq = 2 ∧ t.opList = none ∧
      t.history = s.history ++ [.reset,
        .selRead (d1.sel.getLsbD 0) (d1.sel.getLsbD 1) (d1.sel.getLsbD 2),
        .countRead 0 c, .commit 0 (if v > 0 then .forward else .reverse) u]

/-! ### Whole-machine rules -/

/-- The reset state meets the invariant of Safety.lean (10_state.md R35, R30). -/
def Obligations.ResetMeetsTheBlockInvariant : Prop := State.reset.Inv

/-- 10_state.md R22, R24, R26, R27, 20_memory.md R58, 40_axis_controller.md R104, R109, R112, 41_scale_selector.md
R145, 42_control_loop.md R166, 70_reset_and_hazards.md R255: every step keeps the invariant of Safety.lean, from every
state that meets it. Its last clause speaks of the model's own bit `sleeping` (log entry 5). -/
def Obligations.EveryStepKeepsTheBlockInvariant : Prop :=
  ∀ s t : State, s.Inv → step s = .next t → t.Inv

/-- 60_exceptions.md R223, 40_axis_controller.md R105: under the fixed program neither refusal ever happens, in every
state that meets the invariant. That the step then answers a next state also where the block holds or is stuck is the
model's rendering (log entries 5, 6). -/
def Obligations.FixedProgramIsNeverRefused : Prop :=
  ∀ s : State, s.Inv → s.opList = none →
    (∀ r : Refusal, step s ≠ .refused r) ∧ ∃ t : State, step s = .next t

/-- 10_state.md R22 to R24, R26, R27, R30: what may write each piece of state. -/
def Obligations.EachPieceOfStateHasItsWriters : Prop :=
  ∀ s t : State, step s = .next t →
    (∀ a : Nat, t.axes[a]? ≠ s.axes[a]? →
      s.draw.rst = true ∨ s.fetch = some (encode (.upd (BitVec.ofNat 2 a)))) ∧
    (t.m ≠ s.m → s.draw.rst = true ∨ s.fetch = some (encode .smul)) ∧
    (t.seq = s.seq ∨ s.draw.rst = true ∨ t.seq = (s.seq + 1) % (s.cfg.nAxes + 2)) ∧ t.cfg = s.cfg

/-- 43_external_interfaces.md R200: the history is only added to and never read back. -/
def Obligations.HistoryIsNeverReadBack : Prop :=
  ∀ (s : State) (h : List Event),
    (∀ t : State, step s = .next t → ∃ new : List Event, t.history = s.history ++ new ∧
      step { s with history := h } = .next { t with history := h ++ new }) ∧
    (∀ r : Refusal, step s = .refused r → step { s with history := h } = .refused r)

/-- 10_state.md R23, R24: nothing inside the block reads a committed direction or duty. -/
def Obligations.CommittedValuesAreNeverReadInside : Prop :=
  ∀ (s : State) (other : List Axis), other.map Axis.prev = s.axes.map Axis.prev →
    (∀ t : State, step s = .next t → ∃ t' : State, step { s with axes := other } = .next t' ∧
      t'.m = t.m ∧ t'.seq = t.seq ∧ t'.fault = t.fault ∧ t'.history = t.history ∧ t'.cfg = t.cfg ∧
      t'.sleeping = t.sleeping ∧ t'.opList = t.opList ∧ t'.axes.map Axis.prev = t.axes.map Axis.prev) ∧
    (∀ r : Refusal, step s = .refused r → step { s with axes := other } = .refused r)

/-! ### Output ports -/

/-- 10_state.md R34, 30_encoding.md R78: what the levels are, when they have no value, and that they change only at a
commit. That a port without a value is none, and that a commit is read from the events of a step, is the model's
rendering (log entry 20). -/
def Obligations.OutputsFollowTheCommits : Prop :=
  (∀ (s : State) (a : Nat) (r : Axis) (d : Dir) (u : Nat), s.fault = false → s.axisAt a = some r →
    r.dir = some d → r.duty = some u →
    s.dirO a = some (if d = .forward then s.cfg.fwdLevel else 1#1 - s.cfg.fwdLevel) ∧ s.dutyO a = some u) ∧
  (∀ (s : State) (a : Nat) (r : Axis), s.axisAt a = some r → r.dir = none ∨ r.duty = none →
    s.dirO a = none ∧ s.dutyO a = none) ∧
  (∀ (s t : State) (a : Nat), step s = .next t → s.draw.rst = false → t.fault = false →
    commitO s t a = some false → t.dirO a = s.dirO a ∧ t.dutyO a = s.dutyO a)

/-- 10_state.md R33: which strobes each operation gives. That a strobe is read from the events of a step is the
model's rendering (log entry 20). -/
def Obligations.StrobesOfEachOperation : Prop :=
  (∀ s t : State, s.Running → exec .smul s = .next t →
    sleepReq s t = some false ∧ ∀ b : Nat, commitO s t b = some false) ∧
  (∀ (s t : State) (a : BitVec 2), s.Running → exec (.upd a) s = .next t →
    sleepReq s t = some false ∧ ∀ b : Nat, commitO s t b = some (decide (b = a.toNat))) ∧
  (∀ s t : State, s.Running → exec .wait s = .next t →
    sleepReq s t = some (!s.sleeping) ∧ ∀ b : Nat, commitO s t b = some false)
end

