-- ==== Sys2Proof/Laws/Arith.lean ====
section
/-! SUPPORT. The small lemmas of the pure functions: the clamp, the port word, the program. -/

namespace Sys2Proof.Machine

/-- The clamped value is in the range of a duty (10_state.md R24). -/
theorem sat_le (p : Params) (x : Nat) : sat p x ≤ dutyMax p := Nat.min_le_right _ _

/-- A value in range is not clamped. -/
theorem sat_of_le {p : Params} {x : Nat} (h : x ≤ dutyMax p) : sat p x = x := Nat.min_eq_left h

/-- The program at its first position (42_control_loop.md R160). -/
theorem prog_zero (n : Nat) : prog n 0 = .smul := rfl

/-- The program at the position of axis `a` (42_control_loop.md R160). -/
theorem prog_axis {n a : Nat} (h : a < n) : prog n (a + 1) = .upd (BitVec.ofNat 2 a) := by
  simp [prog, Nat.succ_le_of_lt h]

/-- The program at its last position (42_control_loop.md R160). -/
theorem prog_last (n : Nat) : prog n (n + 1) = .wait := by
  simp [prog]

end Sys2Proof.Machine
end

