-- ==== Sys2Proof/Laws/Codec.lean ====
section
/-! SUPPORT. The fields of a packed operation word. -/

namespace Sys2Proof

@[simp] theorem fieldCls_packFields (cls : BitVec 2) (z : BitVec 4) (a : BitVec 2) :
    fieldCls (packFields cls z a) = cls := by
  revert cls z a; decide

@[simp] theorem fieldZ_packFields (cls : BitVec 2) (z : BitVec 4) (a : BitVec 2) :
    fieldZ (packFields cls z a) = z := by
  revert cls z a; decide

@[simp] theorem fieldA_packFields (cls : BitVec 2) (z : BitVec 4) (a : BitVec 2) :
    fieldA (packFields cls z a) = a := by
  revert cls z a; decide

end Sys2Proof
end

