-- ==== Sys2Proof/Laws/State.lean ====
section
/-! SUPPORT. One lemma per field per update of the state, so that no proof unfolds a record update. -/

namespace Sys2Proof.Machine

variable (s : State)

@[simp] theorem State.consume_cfg :
    s.consume.cfg = s.cfg := rfl
@[simp] theorem State.consume_axes :
    s.consume.axes = s.axes := rfl
@[simp] theorem State.consume_m :
    s.consume.m = s.m := rfl
@[simp] theorem State.consume_seq :
    s.consume.seq = s.seq := rfl
@[simp] theorem State.consume_fault :
    s.consume.fault = s.fault := rfl
@[simp] theorem State.consume_sleeping :
    s.consume.sleeping = s.sleeping := rfl
@[simp] theorem State.consume_opList :
    s.consume.opList = s.opList := rfl
@[simp] theorem State.consume_history :
    s.consume.history = s.history := rfl
@[simp] theorem State.consume_inputs :
    s.consume.inputs = s.inputs.tail := rfl
@[simp] theorem State.consume_drawn :
    s.consume.drawn = s.drawn + 1 := rfl

@[simp] theorem State.record_cfg (e : Event) :
    (s.record e).cfg = s.cfg := rfl
@[simp] theorem State.record_axes (e : Event) :
    (s.record e).axes = s.axes := rfl
@[simp] theorem State.record_m (e : Event) :
    (s.record e).m = s.m := rfl
@[simp] theorem State.record_seq (e : Event) :
    (s.record e).seq = s.seq := rfl
@[simp] theorem State.record_fault (e : Event) :
    (s.record e).fault = s.fault := rfl
@[simp] theorem State.record_sleeping (e : Event) :
    (s.record e).sleeping = s.sleeping := rfl
@[simp] theorem State.record_opList (e : Event) :
    (s.record e).opList = s.opList := rfl
@[simp] theorem State.record_history (e : Event) :
    (s.record e).history = s.history ++ [e] := rfl
@[simp] theorem State.record_inputs (e : Event) :
    (s.record e).inputs = s.inputs := rfl
@[simp] theorem State.record_drawn (e : Event) :
    (s.record e).drawn = s.drawn := rfl

@[simp] theorem State.latch_cfg (x : Nat) :
    (s.latch x).cfg = s.cfg := rfl
@[simp] theorem State.latch_axes (x : Nat) :
    (s.latch x).axes = s.axes := rfl
@[simp] theorem State.latch_m (x : Nat) :
    (s.latch x).m = some x := rfl
@[simp] theorem State.latch_seq (x : Nat) :
    (s.latch x).seq = s.seq := rfl
@[simp] theorem State.latch_fault (x : Nat) :
    (s.latch x).fault = s.fault := rfl
@[simp] theorem State.latch_sleeping (x : Nat) :
    (s.latch x).sleeping = s.sleeping := rfl
@[simp] theorem State.latch_opList (x : Nat) :
    (s.latch x).opList = s.opList := rfl
@[simp] theorem State.latch_history (x : Nat) :
    (s.latch x).history = s.history := rfl
@[simp] theorem State.latch_inputs (x : Nat) :
    (s.latch x).inputs = s.inputs := rfl
@[simp] theorem State.latch_drawn (x : Nat) :
    (s.latch x).drawn = s.drawn := rfl

@[simp] theorem State.setAxis_cfg (a : Nat) (r : Axis) :
    (s.setAxis a r).cfg = s.cfg := rfl
@[simp] theorem State.setAxis_axes (a : Nat) (r : Axis) :
    (s.setAxis a r).axes = s.axes.set a r := rfl
@[simp] theorem State.setAxis_m (a : Nat) (r : Axis) :
    (s.setAxis a r).m = s.m := rfl
@[simp] theorem State.setAxis_seq (a : Nat) (r : Axis) :
    (s.setAxis a r).seq = s.seq := rfl
@[simp] theorem State.setAxis_fault (a : Nat) (r : Axis) :
    (s.setAxis a r).fault = s.fault := rfl
@[simp] theorem State.setAxis_sleeping (a : Nat) (r : Axis) :
    (s.setAxis a r).sleeping = s.sleeping := rfl
@[simp] theorem State.setAxis_opList (a : Nat) (r : Axis) :
    (s.setAxis a r).opList = s.opList := rfl
@[simp] theorem State.setAxis_history (a : Nat) (r : Axis) :
    (s.setAxis a r).history = s.history := rfl
@[simp] theorem State.setAxis_inputs (a : Nat) (r : Axis) :
    (s.setAxis a r).inputs = s.inputs := rfl
@[simp] theorem State.setAxis_drawn (a : Nat) (r : Axis) :
    (s.setAxis a r).drawn = s.drawn := rfl

@[simp] theorem State.setSleeping_cfg (b : Bool) :
    (s.setSleeping b).cfg = s.cfg := rfl
@[simp] theorem State.setSleeping_axes (b : Bool) :
    (s.setSleeping b).axes = s.axes := rfl
@[simp] theorem State.setSleeping_m (b : Bool) :
    (s.setSleeping b).m = s.m := rfl
@[simp] theorem State.setSleeping_seq (b : Bool) :
    (s.setSleeping b).seq = s.seq := rfl
@[simp] theorem State.setSleeping_fault (b : Bool) :
    (s.setSleeping b).fault = s.fault := rfl
@[simp] theorem State.setSleeping_sleeping (b : Bool) :
    (s.setSleeping b).sleeping = b := rfl
@[simp] theorem State.setSleeping_opList (b : Bool) :
    (s.setSleeping b).opList = s.opList := rfl
@[simp] theorem State.setSleeping_history (b : Bool) :
    (s.setSleeping b).history = s.history := rfl
@[simp] theorem State.setSleeping_inputs (b : Bool) :
    (s.setSleeping b).inputs = s.inputs := rfl
@[simp] theorem State.setSleeping_drawn (b : Bool) :
    (s.setSleeping b).drawn = s.drawn := rfl

@[simp] theorem State.commit_cfg (a : Nat) (c : Int) (d : Dir) (u : Nat) :
    (s.commit a c d u).cfg = s.cfg := rfl
@[simp] theorem State.commit_axes (a : Nat) (c : Int) (d : Dir) (u : Nat) :
    (s.commit a c d u).axes = s.axes.set a { prev := c, dir := some d, duty := some u } := rfl
@[simp] theorem State.commit_m (a : Nat) (c : Int) (d : Dir) (u : Nat) :
    (s.commit a c d u).m = s.m := rfl
@[simp] theorem State.commit_seq (a : Nat) (c : Int) (d : Dir) (u : Nat) :
    (s.commit a c d u).seq = s.seq := rfl
@[simp] theorem State.commit_fault (a : Nat) (c : Int) (d : Dir) (u : Nat) :
    (s.commit a c d u).fault = s.fault := rfl
@[simp] theorem State.commit_sleeping (a : Nat) (c : Int) (d : Dir) (u : Nat) :
    (s.commit a c d u).sleeping = s.sleeping := rfl
@[simp] theorem State.commit_opList (a : Nat) (c : Int) (d : Dir) (u : Nat) :
    (s.commit a c d u).opList = s.opList := rfl
@[simp] theorem State.commit_history (a : Nat) (c : Int) (d : Dir) (u : Nat) :
    (s.commit a c d u).history = s.history ++ [.commit a d u] := rfl
@[simp] theorem State.commit_inputs (a : Nat) (c : Int) (d : Dir) (u : Nat) :
    (s.commit a c d u).inputs = s.inputs := rfl
@[simp] theorem State.commit_drawn (a : Nat) (c : Int) (d : Dir) (u : Nat) :
    (s.commit a c d u).drawn = s.drawn := rfl

@[simp] theorem State.takeHalFailure_cfg :
    s.takeHalFailure.cfg = s.cfg := rfl
@[simp] theorem State.takeHalFailure_axes :
    s.takeHalFailure.axes = s.axes := rfl
@[simp] theorem State.takeHalFailure_m :
    s.takeHalFailure.m = s.m := rfl
@[simp] theorem State.takeHalFailure_seq :
    s.takeHalFailure.seq = s.seq := rfl
@[simp] theorem State.takeHalFailure_fault :
    s.takeHalFailure.fault = true := rfl
@[simp] theorem State.takeHalFailure_sleeping :
    s.takeHalFailure.sleeping = s.sleeping := rfl
@[simp] theorem State.takeHalFailure_opList :
    s.takeHalFailure.opList = s.opList := rfl
@[simp] theorem State.takeHalFailure_history :
    s.takeHalFailure.history = s.history ++ [.fault .halFailure] := rfl
@[simp] theorem State.takeHalFailure_inputs :
    s.takeHalFailure.inputs = s.inputs.tail := rfl
@[simp] theorem State.takeHalFailure_drawn :
    s.takeHalFailure.drawn = s.drawn + 1 := rfl

@[simp] theorem State.takeReset_cfg :
    s.takeReset.cfg = s.cfg := rfl
@[simp] theorem State.takeReset_axes :
    s.takeReset.axes = List.replicate s.cfg.nAxes (Axis.atReset s.cfg) := rfl
@[simp] theorem State.takeReset_m :
    s.takeReset.m = none := rfl
@[simp] theorem State.takeReset_seq :
    s.takeReset.seq = 0 := rfl
@[simp] theorem State.takeReset_fault :
    s.takeReset.fault = false := rfl
@[simp] theorem State.takeReset_sleeping :
    s.takeReset.sleeping = false := rfl
@[simp] theorem State.takeReset_opList :
    s.takeReset.opList = none := rfl
@[simp] theorem State.takeReset_history :
    s.takeReset.history = s.history ++ [.reset] := rfl
@[simp] theorem State.takeReset_inputs :
    s.takeReset.inputs = s.inputs.tail := rfl
@[simp] theorem State.takeReset_drawn :
    s.takeReset.drawn = s.drawn + 1 := rfl

@[simp] theorem State.updateAxis_cfg (a : Nat) (r : Axis) (x : Nat) :
    (s.updateAxis a r x).cfg = s.cfg := rfl
@[simp] theorem State.updateAxis_axes (a : Nat) (r : Axis) (x : Nat) :
    (s.updateAxis a r x).axes = s.axes.set a
      { prev := s.readCount a
        dir := some (commandedDir (s.readCount a) r.prev)
        duty := some (commandedDuty s.cfg (s.readCount a) r.prev x) } := rfl
@[simp] theorem State.updateAxis_m (a : Nat) (r : Axis) (x : Nat) :
    (s.updateAxis a r x).m = s.m := rfl
@[simp] theorem State.updateAxis_seq (a : Nat) (r : Axis) (x : Nat) :
    (s.updateAxis a r x).seq = s.seq := rfl
@[simp] theorem State.updateAxis_fault (a : Nat) (r : Axis) (x : Nat) :
    (s.updateAxis a r x).fault = s.fault := rfl
@[simp] theorem State.updateAxis_sleeping (a : Nat) (r : Axis) (x : Nat) :
    (s.updateAxis a r x).sleeping = s.sleeping := rfl
@[simp] theorem State.updateAxis_opList (a : Nat) (r : Axis) (x : Nat) :
    (s.updateAxis a r x).opList = s.opList := rfl
@[simp] theorem State.updateAxis_inputs (a : Nat) (r : Axis) (x : Nat) :
    (s.updateAxis a r x).inputs = s.inputs := rfl
@[simp] theorem State.updateAxis_drawn (a : Nat) (r : Axis) (x : Nat) :
    (s.updateAxis a r x).drawn = s.drawn := rfl

@[simp] theorem State.updateAxis_history (a : Nat) (r : Axis) (x : Nat) :
    (s.updateAxis a r x).history =
      s.history ++ [.countRead a (s.readCount a),
        .commit a (commandedDir (s.readCount a) r.prev) (commandedDuty s.cfg (s.readCount a) r.prev x)] := by
  simp [State.updateAxis, State.commit, State.record, State.setAxis]

@[simp] theorem State.advance_cfg : s.advance.cfg = s.cfg := by
  unfold State.advance; split <;> rfl
@[simp] theorem State.advance_axes : s.advance.axes = s.axes := by
  unfold State.advance; split <;> rfl
@[simp] theorem State.advance_m : s.advance.m = s.m := by
  unfold State.advance; split <;> rfl
@[simp] theorem State.advance_fault : s.advance.fault = s.fault := by
  unfold State.advance; split <;> rfl
@[simp] theorem State.advance_sleeping : s.advance.sleeping = s.sleeping := by
  unfold State.advance; split <;> rfl
@[simp] theorem State.advance_history : s.advance.history = s.history := by
  unfold State.advance; split <;> rfl
@[simp] theorem State.advance_inputs : s.advance.inputs = s.inputs := by
  unfold State.advance; split <;> rfl
@[simp] theorem State.advance_drawn : s.advance.drawn = s.drawn := by
  unfold State.advance; split <;> rfl

theorem State.advance_wired (h : s.opList = none) :
    s.advance.seq = nextSeq s.cfg.nAxes s.seq ∧ s.advance.opList = none := by
  simp [State.advance, h]

theorem State.advance_listed (l : OpList) (h : s.opList = some l) :
    s.advance.seq = s.seq ∧ s.advance.opList = some { l with index := l.index + 1 } := by
  simp [State.advance, h]

@[simp] theorem State.requestSleep_cfg : s.requestSleep.cfg = s.cfg := by
  unfold State.requestSleep; split <;> rfl
@[simp] theorem State.requestSleep_axes : s.requestSleep.axes = s.axes := by
  unfold State.requestSleep; split <;> rfl
@[simp] theorem State.requestSleep_m : s.requestSleep.m = s.m := by
  unfold State.requestSleep; split <;> rfl
@[simp] theorem State.requestSleep_seq : s.requestSleep.seq = s.seq := by
  unfold State.requestSleep; split <;> rfl
@[simp] theorem State.requestSleep_fault : s.requestSleep.fault = s.fault := by
  unfold State.requestSleep; split <;> rfl
@[simp] theorem State.requestSleep_opList : s.requestSleep.opList = s.opList := by
  unfold State.requestSleep; split <;> rfl
@[simp] theorem State.requestSleep_inputs : s.requestSleep.inputs = s.inputs := by
  unfold State.requestSleep; split <;> rfl
@[simp] theorem State.requestSleep_drawn : s.requestSleep.drawn = s.drawn := by
  unfold State.requestSleep; split <;> rfl
@[simp] theorem State.requestSleep_sleeping : s.requestSleep.sleeping = true := by
  unfold State.requestSleep; split <;> simp_all

theorem State.requestSleep_history :
    s.requestSleep.history = s.history ++ (if s.sleeping then [] else [.sleep s.cfg.periodMs]) := by
  unfold State.requestSleep; split <;> simp_all

theorem State.draw_cons (d : Inputs) (rest : List Inputs) (h : s.inputs = d :: rest) : s.draw = d := by
  simp [State.draw, h]

end Sys2Proof.Machine
end

