-- ==== Sys2Proof/Laws/Ops.lean ====
section
/-! SUPPORT. What each shared operation and each meaning can answer, said once: the frame of a step, the three
meanings as equations, and the inversion of a step. -/

namespace Sys2Proof.Machine

variable {s t : State}

/-- When nothing stands in the way the step is the operation's own effect. -/
theorem State.attempt_running (h : s.Running) (body : Host.Outcome State Fault Refusal) :
    s.attempt body = body := by
  simp [State.attempt, h.1, h.2.1, h.2.2]

theorem State.attempt_reset (h : s.draw.rst = true) (body : Host.Outcome State Fault Refusal) :
    s.attempt body = .next s.takeReset := by
  simp [State.attempt, h]

theorem State.attempt_stuck (h : s.draw.rst = false) (hf : s.fault = true)
    (body : Host.Outcome State Fault Refusal) : s.attempt body = .next s.consume := by
  simp [State.attempt, h, hf]

theorem State.attempt_failure (h : s.draw.rst = false) (hf : s.fault = false) (hh : s.draw.halFail = true)
    (body : Host.Outcome State Fault Refusal) : s.attempt body = .next s.takeHalFailure := by
  simp [State.attempt, h, hf, hh]

/-- Everything an attempted operation that answers a next state can have done. -/
theorem State.attempt_next {body : Host.Outcome State Fault Refusal} (h : s.attempt body = .next t) :
    (s.draw.rst = true ∧ t = s.takeReset) ∨
    (s.draw.rst = false ∧ s.fault = true ∧ t = s.consume) ∨
    (s.draw.rst = false ∧ s.fault = false ∧ s.draw.halFail = true ∧ t = s.takeHalFailure) ∨
    (s.Running ∧ body = .next t) := by
  unfold State.attempt at h
  split at h
  · cases h; simp_all
  · split at h
    · cases h; simp_all
    · split at h
      · cases h; simp_all
      · rename_i hr hf hh
        exact .inr (.inr (.inr ⟨⟨by simpa using hr, by simpa using hh, by simpa using hf⟩, h⟩))

/-- An axis record is there exactly when the axis exists and the array holds it. -/
theorem State.axisAt_eq_some {a : Nat} {r : Axis} :
    s.axisAt a = some r ↔ a < s.cfg.nAxes ∧ s.axes[a]? = some r := by
  simp [State.axisAt]

/-- With a record for each axis, the record of an axis that exists is there. -/
theorem State.axisAt_of_lt (h : s.axes.length = s.cfg.nAxes) {a : Nat} (ha : a < s.cfg.nAxes) :
    s.axisAt a = some (s.axes[a]'(h ▸ ha)) := by
  simp [State.axisAt, ha, h]

/-- No record stands where no axis exists. -/
theorem State.axisAt_of_ge {a : Nat} (ha : s.cfg.nAxes ≤ a) : s.axisAt a = none := by
  simp [State.axisAt, ha]

/-- Equal records and configurations give equal lookups. -/
theorem State.axisAt_congr (hc : t.cfg = s.cfg) (ha : t.axes = s.axes) (a : Nat) : t.axisAt a = s.axisAt a := by
  simp [State.axisAt, hc, ha]

/-- A state that took the advance of one that still stood where `s` stands is where `s` advances to. -/
theorem State.advancedTo_of {r : State} (hc : r.cfg = s.cfg) (hl : r.opList = s.opList) (hq : r.seq = s.seq)
    (hl' : t.opList = r.advance.opList) (hq' : t.seq = r.advance.seq) : s.AdvancedTo t := by
  unfold State.AdvancedTo
  rw [hl', hq', ← hl, ← hq, ← hc]
  split
  · rename_i h; exact ⟨(r.advance_wired h).2, (r.advance_wired h).1⟩
  · rename_i l h; simp [r.advance_listed l h]

/-- `SMUL` with nothing in its way. -/
theorem execSmul_running (h : s.Running) :
    exec .smul s =
      .next ((s.record (.selRead (s.draw.sel.getLsbD 0) (s.draw.sel.getLsbD 1) (s.draw.sel.getLsbD 2))).latch
        (select s.cfg (s.draw.sel.getLsbD 0) (s.draw.sel.getLsbD 1) (s.draw.sel.getLsbD 2))).advance.consume :=
  s.attempt_running h _

/-- `UPD a` with nothing in its way, an axis that exists and a latched multiplier. -/
theorem execUpd_running (h : s.Running) {a : BitVec 2} {r : Axis} (ha : s.axisAt a.toNat = some r) {m : Nat}
    (hm : s.m = some m) : exec (.upd a) s = .next (s.updateAxis a.toNat r m).advance.consume := by
  simp [exec, execUpd, s.attempt_running h, ha, hm]

/-- `UPD a` with nothing in its way and no multiplier. -/
theorem execUpd_no_multiplier (h : s.Running) {a : BitVec 2} {r : Axis} (ha : s.axisAt a.toNat = some r)
    (hm : s.m = none) : exec (.upd a) s = .refused (.noMultiplier a.toNat) := by
  simp [exec, execUpd, s.attempt_running h, ha, hm]

/-- `UPD a` with nothing in its way for an axis that has no record. -/
theorem execUpd_missing_axis (h : s.Running) {a : BitVec 2} (ha : s.axisAt a.toNat = none) :
    exec (.upd a) s = .refused (.illegalOp (encode (.upd a))) := by
  simp [exec, execUpd, s.attempt_running h, ha]

/-- `WAIT` with nothing in its way and the period over. -/
theorem execWait_wakes (h : s.Running) (hp : s.draw.periodElapsed = true) :
    exec .wait s = .next (s.requestSleep.setSleeping false).advance.consume := by
  simp [exec, execWait, s.attempt_running h, hp]

/-- `WAIT` with nothing in its way and the period not over: it holds. -/
theorem execWait_holds (h : s.Running) (hp : s.draw.periodElapsed = false) :
    exec .wait s = .next s.requestSleep.consume := by
  simp [exec, execWait, s.attempt_running h, hp]

/-- The word of a well-formed operation decodes to it, so a cycle that fetches it runs its meaning. -/
theorem step_of_fetch {i : Instr} {w : OpWord} (hf : s.fetch = some w) (hd : decode s.cfg.nAxes w = .ok i) :
    step s = exec i s := by
  simp [step, cycle, hf, hd]

/-- Everything a step that answers a next state can have done. -/
theorem step_next (h : step s = .next t) :
    (s.draw.rst = true ∧ t = s.takeReset) ∨
    (s.draw.rst = false ∧ s.fault = true ∧ t = s.consume) ∨
    (s.draw.rst = false ∧ s.fault = false ∧ s.draw.halFail = true ∧ t = s.takeHalFailure) ∨
    (s.Running ∧ ∃ w i, s.fetch = some w ∧ decode s.cfg.nAxes w = .ok i ∧ exec i s = .next t) := by
  unfold step cycle at h
  split at h
  · rcases State.attempt_next h with h | h | h | ⟨_, h⟩
    · exact .inl h
    · exact .inr (.inl h)
    · exact .inr (.inr (.inl h))
    · cases h
  · rename_i w hw
    split at h
    · rename_i i hi
      have hex : ∃ body, exec i s = s.attempt body := by
        cases i with
        | smul => exact ⟨_, rfl⟩
        | upd a => exact ⟨_, rfl⟩
        | wait => exact ⟨_, rfl⟩
      obtain ⟨body, hb⟩ := hex
      rcases State.attempt_next (hb ▸ h) with h' | h' | h' | ⟨h', _⟩
      · exact .inl h'
      · exact .inr (.inl h')
      · exact .inr (.inr (.inl h'))
      · exact .inr (.inr (.inr ⟨h', w, i, hw, hi, h⟩))
    · rcases State.attempt_next h with h | h | h | ⟨_, h⟩
      · exact .inl h
      · exact .inr (.inl h)
      · exact .inr (.inr (.inl h))
      · cases h

/-- The first of several steps. -/
theorem runSteps_next (h : step s = .next t) (n : Nat) : runSteps (n + 1) s = runSteps n t := by
  simp [runSteps, h]

/-- Everything an operation that runs to its own effect can have done. -/
theorem exec_running_next {i : Instr} (h : s.Running) (he : exec i s = .next t) :
    (i = .smul ∧
      t = ((s.record (.selRead (s.draw.sel.getLsbD 0) (s.draw.sel.getLsbD 1) (s.draw.sel.getLsbD 2))).latch
        (select s.cfg (s.draw.sel.getLsbD 0) (s.draw.sel.getLsbD 1) (s.draw.sel.getLsbD 2))).advance.consume) ∨
    (∃ a r m, i = .upd a ∧ s.axisAt a.toNat = some r ∧ s.m = some m ∧
      t = (s.updateAxis a.toNat r m).advance.consume) ∨
    (i = .wait ∧ s.draw.periodElapsed = true ∧
      t = (s.requestSleep.setSleeping false).advance.consume) ∨
    (i = .wait ∧ s.draw.periodElapsed = false ∧ t = s.requestSleep.consume) := by
  cases i with
  | smul =>
    rw [execSmul_running h] at he
    cases he
    exact .inl ⟨rfl, rfl⟩
  | upd a =>
    cases ha : s.axisAt a.toNat with
    | none => rw [execUpd_missing_axis h ha] at he; cases he
    | some r =>
      cases hm : s.m with
      | none => rw [execUpd_no_multiplier h ha hm] at he; cases he
      | some m =>
        rw [execUpd_running h ha hm] at he
        cases he
        exact .inr (.inl ⟨a, r, m, rfl, ha, rfl, rfl⟩)
  | wait =>
    cases hp : s.draw.periodElapsed with
    | true =>
      rw [execWait_wakes h hp] at he
      cases he
      exact .inr (.inr (.inl ⟨rfl, rfl, rfl⟩))
    | false =>
      rw [execWait_holds h hp] at he
      cases he
      exact .inr (.inr (.inr ⟨rfl, rfl, rfl⟩))

/-! ### The block facing an environment -/

@[simp] theorem State.facing_cfg (env : Nat → Inputs) (n : Nat) :
    (s.facing env n).cfg = s.cfg := rfl
@[simp] theorem State.facing_axes (env : Nat → Inputs) (n : Nat) :
    (s.facing env n).axes = s.axes := rfl
@[simp] theorem State.facing_m (env : Nat → Inputs) (n : Nat) :
    (s.facing env n).m = s.m := rfl
@[simp] theorem State.facing_seq (env : Nat → Inputs) (n : Nat) :
    (s.facing env n).seq = s.seq := rfl
@[simp] theorem State.facing_fault (env : Nat → Inputs) (n : Nat) :
    (s.facing env n).fault = s.fault := rfl
@[simp] theorem State.facing_sleeping (env : Nat → Inputs) (n : Nat) :
    (s.facing env n).sleeping = s.sleeping := rfl
@[simp] theorem State.facing_opList (env : Nat → Inputs) (n : Nat) :
    (s.facing env n).opList = s.opList := rfl
@[simp] theorem State.facing_history (env : Nat → Inputs) (n : Nat) :
    (s.facing env n).history = s.history := rfl
@[simp] theorem State.facing_drawn (env : Nat → Inputs) (n : Nat) :
    (s.facing env n).drawn = s.drawn := rfl

/-- The next draw of a block that faces an environment is what the environment presents first. -/
@[simp] theorem State.facing_draw (env : Nat → Inputs) (n : Nat) : (s.facing env (n + 1)).draw = env 0 := by
  simp [State.facing, State.draw, List.range_succ_eq_map]

/-! ### The end of a run -/

/-- A run observed for no iteration ends where it starts. -/
@[simp] theorem iterationsEnd_zero (fuel : Nat) : iterationsEnd fuel 0 s = some s := by
  cases fuel <;> rfl

/-- One step of a run that is still to complete an iteration. -/
theorem iterationsEnd_step (h : s.Running) (hs : step s = .next t) (fuel k : Nat) :
    iterationsEnd (fuel + 1) (k + 1) s = iterationsEnd fuel (if s.completesWait then k else k + 1) t := by
  rw [iterationsEnd, if_pos h, hs]

end Sys2Proof.Machine
end

