-- ==== Sys2Proof/Laws/PerInstr.lean ====
section
/-! SUPPORT. A statement per operation about its word's layout: the reserved field is zero, the class is not the
reserved one, and only `UPD` uses the axis field (30_encoding.md R70, R71). -/

namespace Sys2Proof.Laws.FieldLayout

/-- The layout of an operation's word (30_encoding.md R70): reserved bits zero, a class of its own, and in the axis
field the operand of `UPD` or zero. -/
def Statement (i : Instr) : Prop :=
  fieldZ (encode i) = 0 ∧
  match i with
  | .smul => fieldCls (encode i) = 0b00#2 ∧ fieldA (encode i) = 0
  | .upd a => fieldCls (encode i) = 0b01#2 ∧ fieldA (encode i) = a
  | .wait => fieldCls (encode i) = 0b10#2 ∧ fieldA (encode i) = 0

theorem smul : Statement .smul := by simp [Statement, encode]

theorem upd (a : BitVec 2) : Statement (.upd a) := by simp [Statement, encode]

theorem wait : Statement .wait := by simp [Statement, encode]

end Sys2Proof.Laws.FieldLayout
end

