-- ==== Sys2Proof/Machine/Flags.lean ====
section
/-! DEFINITION. The block has no flags, condition codes or predicates: saturation is silent, and no bit records a
clamp, a zero velocity or an ambiguous multiplier input (10_state.md R29, 60_exceptions.md R221). No operation
computes a flag, so this file defines nothing. -/
end

