-- ==== Sys2Proof/Tests/Slice0.lean ====
section
/-! SUPPORT. The model's own tests: the well-formedness smoke test, words written out from 30_encoding.md, a few
vectors of 95_test_vectors.md, each on one small state, and for every statement with hypotheses a state and
operands that meet them. -/

namespace Sys2Proof.Tests

open Sys2Proof.Machine

/-! ### Helpers -/

/-- An input record with the given select word and counts, no event present. -/
def calm (sel : BitVec 3) (c0 c1 c2 : Int) : Inputs :=
  { rst := false, halFail := false, periodElapsed := false, sel := sel, cnt0 := c0, cnt1 := c1, cnt2 := c2, cnt3 := 9 }

/-- The same with the sampling period over. -/
def waking : Inputs := { calm 0 0 0 0 with periodElapsed := true }

/-- The same with a collaborator failure. -/
def failing : Inputs := { calm 0 0 0 0 with halFail := true }

/-- The same with reset asserted. -/
def resetting : Inputs := { calm 0 0 0 0 with rst := true }

/-- The reference configuration of `n` axes with both open parameters named. -/
def config (n : Nat) : Params :=
  { Params.reference with nAxes := n, fwdLevel := 1, selActive := 0 }

/-- A state of the block at `seq` with the latch `m` and every `prev` at `p`, nothing committed. -/
def block (seq : Nat) (m : Option Nat) (p : Int) (inputs : List Inputs) : State :=
  { cfg := config 3, axes := List.replicate 3 { prev := p, dir := none, duty := none }
    m := m, seq := seq, fault := false, sleeping := false, opList := none, history := [], inputs := inputs, drawn := 0 }

/-- The same running a model-only list of words. -/
def listed (words : List OpWord) (m : Option Nat) (inputs : List Inputs) : State :=
  { block 0 m 0 inputs with opList := some { words := words, index := 0 } }

/-- The state an outcome gives, or `s` where it gives none. -/
def stateOf (s : State) : Host.Outcome State Fault Refusal → State
  | .next t => t
  | .fault _ => s
  | .refused _ => s

/-- Whether an outcome is a next state with a property. -/
def nextWith (p : State → Bool) : Host.Outcome State Fault Refusal → Bool
  | .next t => p t
  | .fault _ => false
  | .refused _ => false

/-- Whether an outcome is a refusal for this reason. -/
def refusedWith (r : Refusal) : Host.Outcome State Fault Refusal → Bool
  | .next _ => false
  | .fault _ => false
  | .refused q => decide (q = r)

/-! ### Well-formedness and decoding -/

/-- The one check of WellFormed.lean refuses the term it is for (30_encoding.md R75 (a)), and lets it pass where the
axis exists (R72). -/
theorem test_wellFormed_refuses_axis_3 :
    (Instr.upd 3).wellFormed 3 = false ∧ (Instr.upd 3).wellFormed 4 = true := by decide

/-- `SMUL` = `00 0000 00` (30_encoding.md R70, R74). -/
theorem test_decode_smul : decode 3 0b00000000#8 = .ok .smul := by decide

/-- `UPD 2` = `01 0000 10` (30_encoding.md R70, R74). -/
theorem test_decode_upd_2 : decode 3 0b01000010#8 = .ok (.upd 2) := by decide

/-- `WAIT` = `10 0000 00` (30_encoding.md R70, R74). -/
theorem test_decode_wait : decode 3 0b10000000#8 = .ok .wait := by decide

/-- The refused words of 95_test_vectors.md 2.4. -/
theorem test_decode_illegal :
    [0x43#8, 0x04#8, 0x3F#8, 0x44#8, 0x01#8, 0x83#8, 0xC0#8, 0xFF#8].all
      (fun w => decide (decode 3 w = .error (.illegalOp w))) = true := by decide

/-- The five words of 30_encoding.md R82, encoded and as the host numbers them. -/
theorem test_encode_iter : (iter 3).map encode = [0x00#8, 0x40#8, 0x41#8, 0x42#8, 0x80#8] := by decide

theorem test_decodeTableWord :
    decodeTableWord 8 0x41 = some (.upd 1) ∧ decodeTableWord 8 0x43 = none ∧ decodeTableWord 16 0x80 = none := by
  decide

/-- A line with blanks and a comment, and an index that is a syntax error (30_encoding.md R81). -/
theorem test_assembler :
    parseLine 3 [' ', 'U', 'P', 'D', '\t', '1', ';', 'x'] = some [.upd 1] ∧
    parseLine 3 ['U', 'P', 'D', ' ', '3'] = none ∧ parseLine 3 ['w'] = none := by decide

/-! ### Vectors of 95_test_vectors.md -/

/-- 2.2, `sel_i = 0b110`: input 2 beats input 3, over any previous latch. -/
theorem test_smul_110 :
    nextWith (fun t => decide (t.m = some 100 ∧ t.seq = 1)) (exec .smul (block 0 (some 1000) 0 [calm 0b110 0 0 0])) =
      true := by decide

/-- 2.2, `sel_i = 0b000` from `M = 1000`: the default overwrites. -/
theorem test_smul_000 :
    nextWith (fun t => decide (t.m = some 10)) (exec .smul (block 0 (some 1000) 0 [calm 0 0 0 0])) = true := by
  decide

/-- 2.1 A12: the largest product, Reverse, clamped. -/
theorem test_upd_A12 :
    nextWith (fun t => decide (t.axes[1]? = some { prev := -32768, dir := some .reverse, duty := some 1023 } ∧ t.seq = 3))
      (exec (.upd 1) (block 2 (some 1000) 32767 [calm 0 0 (-32768) 0])) = true := by decide +kernel

/-- 2.1 A13: an exact velocity where a 16-bit subtraction would turn Reverse. -/
theorem test_upd_A13 :
    nextWith (fun t => decide (t.axes[0]? = some { prev := 20000, dir := some .forward, duty := some 1023 }))
      (exec (.upd 0) (block 1 (some 10) (-20000) [calm 0 20000 0 0])) = true := by decide +kernel

/-- 2.3 S4: the wake wraps `seq`. -/
theorem test_wait_wakes :
    nextWith (fun t => decide (t.seq = 0 ∧ t.history = [.sleep 100])) (exec .wait (block 4 (some 10) 0 [waking])) =
      true := by decide

/-- 2.3 S3, S6: one `sleep_req`, then the hold. -/
theorem test_wait_holds :
    nextWith (fun t => decide (t.seq = 4 ∧ t.history = [.sleep 100]))
      (runSteps 2 (block 4 (some 10) 0 [calm 0 0 0 0, calm 0 0 0 0])) = true := by decide

/-- 2.5 E2: the failing step does not complete. -/
theorem test_failure :
    nextWith (fun t => decide (t.fault = true ∧ t.seq = 2 ∧ t.axes = (block 2 none 0 []).axes ∧ t.dirO 1 = none))
      (step (block 2 (some 10) 0 [failing])) = true := by decide

/-- 2.5 E4: reset wins over a standing fault and a failure. -/
theorem test_reset_wins :
    nextWith (fun t => decide (t.fault = false ∧ t.seq = 0 ∧ t.m = none))
      (step { block 2 (some 10) 7 [{ failing with rst := true }] with fault := true }) = true := by decide

/-- 2.5 E5: `UPD 0` from the reset latch is refused. -/
theorem test_upd_no_multiplier :
    refusedWith (.noMultiplier 0) (step (listed [0x40#8] none [calm 0 0 0 0])) = true := by decide

/-- A block of four axes has an `UPD 3` (10_state.md R30, 30_encoding.md R72). -/
theorem test_upd_3_of_four_axes :
    nextWith (fun t => decide (t.seq = 5 ∧ t.axes[3]? = some { prev := 9, dir := some .forward, duty := some 90 }))
      (step { block 4 (some 10) 0 [calm 0 0 0 0] with
        cfg := config 4, axes := List.replicate 4 { prev := 0, dir := none, duty := none } }) = true := by decide

/-- The three table words run as the first operation after reset. -/
theorem test_withFetchWord :
    nextWith (fun t => decide (t.m = some 10)) (step (State.reset.withFetchWord 8 0x00)) = true ∧
    nextWith (fun t => decide (t.seq = 2)) (step (State.reset.withFetchWord 8 0x40)) = true ∧
    nextWith (fun t => decide (t.seq = 0)) (step (State.reset.withFetchWord 8 0x80)) = true ∧
    refusedWith (.illegalOp 0x43#8) (step (State.reset.withFetchWord 8 0x43)) = true := by decide

/-- A count port's word 0xB1E0 is -20000 (00_scope.md R10, 30_encoding.md R80). -/
theorem test_countPort : countOn (config 3) (calm 0 0 0xB1E0 0) 1 = -20000 := by decide

/-! ### Witnesses for the statements' hypotheses -/

/-- The test configuration is legal, with one axis, three and four, and with `PREV_RESET` at both ends. -/
theorem test_witness_ParamsLegal :
    ParamsLegal (config 1) ∧ ParamsLegal (config 3) ∧ ParamsLegal (config 4) ∧
    ParamsLegal { config 3 with prevReset := 32767 } ∧ ParamsLegal { config 3 with prevReset := -32768 } := by decide

theorem test_witness_LegalWordsAreExactlyFive : ∃ w i, decode 3 w = .ok i := ⟨0x42#8, .upd 2, by decide⟩

theorem test_witness_EveryOtherWordIsIllegal :
    (listed [0x43#8] none [calm 0 0 0 0]).Running ∧ (listed [0x43#8] none [calm 0 0 0 0]).fetch = some 0x43#8 ∧
    decode 3 0x43#8 = .error (.illegalOp 0x43#8) := by decide

theorem test_witness_DecodingEncodedOperationsGivesThemBack :
    (∀ i ∈ [Instr.smul, .upd 2, .wait], i.wellFormed 3 = true) ∧ ∀ i ∈ [Instr.upd 3], i.wellFormed 4 = true := by
  decide

theorem test_witness_DecodedWordReencodes : decode 3 0x80#8 = .ok .wait := by decide

theorem test_witness_AssemblerReadsBackEveryOperation : (Instr.upd 2).wellFormed 3 = true ∧ 3 ≤ (3#2).toNat := by
  decide

theorem test_witness_FixedProgramIsOneIteration : 0 < 3 ∧ 2 < 3 := by decide

theorem test_witness_DirectionAndMagnitudeOfVelocity :
    (-65535 ≤ (65535 : Int) ∧ (65535 : Int) ≤ 65535 ∧ (65535 : Int) > 0) ∧
    (-65535 ≤ (0 : Int) ∧ (0 : Int) ≤ 65535 ∧ (0 : Int) ≤ 0) := by decide

/-- The ends of the count range, of the window of 16383 and of a counter's window. -/
theorem test_witness_VelocityIsExact :
    (SignedRange 16 (-32768) ∧ SignedRange 16 32767) ∧
    (-16383 ≤ (-16383 : Int) ∧ (16383 : Int) ≤ 16383 ∧ SignedRange 16 16383) ∧
    (0 < (config 3).nAxes ∧ InWindow (config 3) (calm 0 10000 (-10000) 0) ∧
      (-((config 3).countLimit : Int) ≤ 10000 ∧ 10000 ≤ ((config 3).countLimit : Int))) := by decide +kernel

theorem test_witness_CountPortIsTwosComplement :
    ((0 : Int) ≤ 32768 ∧ (32768 : Int) < 65536) ∧ ParamsLegal (config 3) ∧
    SignedRange 16 (portCount (calm 0 0 0 (-32768)) 2) := by decide

theorem test_witness_ProductIsExactAndFits : 65535 ≤ 65535 := by decide

theorem test_witness_DutyIsClampedScaledSpeed : (config 3).resBits = 10 := by decide

/-- Both sides of each threshold of 40_axis_controller.md R112. -/
theorem test_witness_SaturationThresholds :
    ParamsLegal (config 3) ∧ (delta 102 0).natAbs * 10 < 1024 ∧ 1024 ≤ (delta 103 0).natAbs * 10 ∧
    (delta 10 0).natAbs * 100 < 1024 ∧ 1024 ≤ (delta 11 0).natAbs * 100 ∧
    (delta 0 1).natAbs * 1000 < 1024 ∧ 1024 ≤ (delta 0 2).natAbs * 1000 := by decide

theorem test_witness_SmulLatchesTheSelectedMultiplier :
    (block 0 none 0 [calm 0b100 0 0 0]).Running ∧ ParamsLegal (block 0 none 0 []).cfg ∧
    ((block 0 none 0 [failing]).draw.rst = false ∧ (block 0 none 0 [failing]).fault = false ∧
      (block 0 none 0 [failing]).draw.halFail = true) := by decide

/-- `selActive` is 0 in the test configuration: the levels `0b011` assert input 3 alone. -/
theorem test_witness_SelectPolarityIsNormalised :
    (block 0 none 0 [calm 0b100 0 0 0]).Running ∧
    (block 0 none 0 [calm 0b100 0 0 0]).draw.sel = selWord (block 0 none 0 []).cfg 0b011 := by decide

theorem test_witness_UpdCommitsTheScaledVelocity :
    ((block 3 (some 10) 0 [calm 0 0 0 5]).Running ∧
      (block 3 (some 10) 0 [calm 0 0 0 5]).axisAt (2#2).toNat = some { prev := 0, dir := none, duty := none } ∧
      (block 3 (some 10) 0 [calm 0 0 0 5]).m = some 10) ∧
    ((block 1 none 0 [calm 0 0 0 0]).Running ∧ (block 1 none 0 []).cfg.nAxes = 3 ∧
      (block 1 none 0 []).cfg.nAxes ≤ (3#2).toNat ∧ (block 1 none 0 [calm 0 0 0 0]).m = none ∧
      (block 1 none 0 [calm 0 0 0 0]).axisAt (0#2).toNat = some { prev := 0, dir := none, duty := none }) ∧
    ((block 1 (some 10) 0 [failing]).draw.rst = false ∧ (block 1 (some 10) 0 [failing]).fault = false ∧
      (block 1 (some 10) 0 [failing]).draw.halFail = true ∧ (block 1 (some 10) 0 [failing]).m = some 10 ∧
      (block 1 (some 10) 0 [failing]).axisAt (0#2).toNat = some { prev := 0, dir := none, duty := none }) := by decide

/-- One update of axis 0 that ran. -/
def movedOnce : State := stateOf (block 1 (some 10) 0 []) (exec (.upd 0) (block 1 (some 10) 0 [calm 0 5 0 0]))

theorem test_witness_UpdTouchesItsAxisOnly :
    (block 1 (some 10) 0 [calm 0 5 0 0]).Running ∧
    exec (.upd 0) (block 1 (some 10) 0 [calm 0 5 0 0]) = .next movedOnce ∧ 1 ≠ (0#2).toNat :=
  ⟨by decide, rfl, by decide⟩

/-- The block after that update, facing the same counts again. -/
def movedAgain : State := { movedOnce with inputs := [calm 0 5 0 0] }

theorem test_witness_RepeatedCountStopsTheAxis :
    (block 1 (some 10) 0 [calm 0 5 0 0]).Running ∧
    exec (.upd 0) (block 1 (some 10) 0 [calm 0 5 0 0]) = .next movedOnce ∧
    movedAgain.Running ∧ movedAgain.m.isSome = true ∧ movedAgain.cfg = movedOnce.cfg ∧
    movedAgain.axes[(0#2).toNat]? = movedOnce.axes[(0#2).toNat]? ∧
    movedAgain.readCount (0#2).toNat = (block 1 (some 10) 0 [calm 0 5 0 0]).readCount (0#2).toNat :=
  ⟨by decide, rfl, by decide, by decide, rfl, rfl, by decide⟩

/-- One update of axis 0 by the opposite velocity. -/
def movedBack : State := stateOf (block 1 (some 10) 0 []) (exec (.upd 0) (block 1 (some 10) 0 [calm 0 (-5) 0 0]))

theorem test_witness_DutyIsMonotoneAndSignFree :
    (block 1 (some 10) 0 [calm 0 5 0 0]).Running ∧ (block 1 (some 10) 0 [calm 0 (-5) 0 0]).Running ∧
    exec (.upd 0) (block 1 (some 10) 0 [calm 0 5 0 0]) = .next movedOnce ∧
    exec (.upd 0) (block 1 (some 10) 0 [calm 0 (-5) 0 0]) = .next movedBack ∧
    (block 1 (some 10) 0 []).axes[0]? = some { prev := 0, dir := none, duty := none } ∧
    movedOnce.axes[0]? = some { prev := 5, dir := some .forward, duty := some 50 } ∧
    movedBack.axes[0]? = some { prev := -5, dir := some .reverse, duty := some 50 } :=
  ⟨by decide, by decide, rfl, rfl, by decide, by decide, by decide +kernel⟩

theorem test_witness_UpdatesOfDifferentAxesCommute :
    ((block 1 (some 10) 0 []).axisAt (0#2).toNat).isSome = true ∧
    ((block 1 (some 10) 0 []).axisAt (2#2).toNat).isSome = true ∧ (0#2) ≠ (2#2) ∧
    (block 1 (some 10) 0 []).m.isSome = true ∧
    (block 1 (some 10) 0 []).fault = false ∧ PlainDraw (calm 0 1 2 3) ∧ PlainDraw (calm 0 4 5 6) := by decide

theorem test_witness_WaitCompletesWhenThePeriodIsOver :
    (block 4 (some 10) 0 [waking]).Running ∧ (block 4 (some 10) 0 [waking]).draw.periodElapsed = true := by
  decide

theorem test_witness_WaitHoldsWithoutThePeriod :
    (block 4 (some 10) 0 [calm 0 0 0 0]).Running ∧
    (block 4 (some 10) 0 [calm 0 0 0 0]).draw.periodElapsed = false := by decide

theorem test_witness_WaitHangsWhenTheClockFails :
    (block 4 (some 10) 0 [calm 0 0 0 0, calm 0 1 1 1]).inputs = calm 0 0 0 0 :: [calm 0 1 1 1] ++ [] ∧
    (block 4 (some 10) 0 []).opList = none ∧ (block 4 (some 10) 0 []).seq = (block 4 (some 10) 0 []).cfg.nAxes + 1 ∧
    (block 4 (some 10) 0 []).fault = false ∧
    ∀ x ∈ [calm 0 0 0 0, calm 0 1 1 1], PlainDraw x ∧ x.periodElapsed = false := by decide

theorem test_witness_StrayPeriodElapsedIsIgnored : Instr.smul ≠ .wait ∧ Instr.upd 0 ≠ .wait := by decide

theorem test_witness_StepRunsTheFetchedOperation :
    (block 0 none 0 []).opList = none ∧
    ((listed [0x80#8] none []).opList = some { words := [0x80#8], index := 0 } ∧
      ([0x80#8] : List OpWord)[0]? = some (encode .wait) ∧ Instr.wait.wellFormed 3 = true) := by decide

theorem test_witness_EndedListIsRefused :
    (listed [] none [calm 0 0 0 0]).Running ∧ (listed [] none []).opList = some { words := [], index := 0 } := by
  decide

/-- The list of 95_test_vectors.md P4, last row, follows the block from reset. -/
theorem test_witness_OperationListFollowsTheBlock :
    (listed [0x00#8, 0x40#8] none [calm 0 5 0 0]).ListFollows (block 0 none 0 [calm 0 5 0 0]) ∧
    (block 0 none 0 [calm 0 5 0 0]).draw.rst = false ∧
    step (listed [0x00#8, 0x40#8] none [calm 0 5 0 0]) =
      .next (stateOf (block 0 none 0 []) (step (listed [0x00#8, 0x40#8] none [calm 0 5 0 0]))) := by
  refine ⟨⟨rfl, rfl, rfl, rfl, rfl, rfl, by decide, _, rfl, ?_⟩, by decide, rfl⟩
  intro k w h
  match k with
  | 0 => simp at h; subst h; rfl
  | 1 => simp at h; subst h; rfl
  | k + 2 => simp at h

/-- The draws of one iteration with one hold in its `WAIT` (95_test_vectors.md P1, iteration 1). -/
def firstDraws : IterationDraws :=
  { select := calm 0 0 10 (-5), counts := [calm 0 0 10 (-5), calm 0 0 10 (-5), calm 0 0 10 (-5)]
    holds := [calm 0 0 0 0], wake := waking }

theorem test_witness_IterationLaw :
    (block 0 none 0 firstDraws.draws).AtIterationStart ∧
    firstDraws.Completing (block 0 none 0 firstDraws.draws).cfg.nAxes ∧
    (block 0 none 0 firstDraws.draws).inputs = firstDraws.draws ++ [] := by decide

/-- Iteration 1 of 95_test_vectors.md P1, by the rule and by the block. -/
theorem test_iteration_P1 :
    ((iterationResult (config 3) (block 0 none 0 []).observe (firstDraws.samples (config 3))).axes =
      [{ prev := 0, dir := some .reverse, duty := some 0 }, { prev := 10, dir := some .forward, duty := some 100 },
       { prev := -5, dir := some .reverse, duty := some 50 }]) ∧
    nextWith (fun t => decide (t.observe =
        iterationResult (config 3) (block 0 none 0 []).observe (firstDraws.samples (config 3))))
      (runSteps 6 (block 0 none 0 firstDraws.draws)) = true := by decide +kernel

/-- The state in which that iteration ends. -/
def iterated : State := stateOf (block 0 none 0 []) (runSteps 6 (block 0 none 0 firstDraws.draws))

theorem test_witness_OutputsAreDrivenAfterTheFirstIteration :
    runSteps firstDraws.draws.length (block 0 none 0 firstDraws.draws) = .next iterated ∧
    0 < (block 0 none 0 []).cfg.nAxes ∧
    step (block 1 (some 10) 0 [calm 0 5 0 0]) = .next movedOnce ∧
    (block 1 (some 10) 0 [calm 0 5 0 0]).dirO 0 = none ∧ (movedOnce.dirO 0).isSome = true ∧
    (block 1 (some 10) 0 [calm 0 5 0 0]).dutyO 0 = none ∧ (movedOnce.dutyO 0).isSome = true :=
  ⟨rfl, by decide, rfl, by decide, by decide, by decide, by decide⟩

/-- The run observed for one iteration ends after its six steps, the hold among them, and not after five. -/
theorem test_witness_RunEndsAtItsLastCompletedWait :
    (block 0 none 0 firstDraws.draws).opList = none ∧
    (block 0 none 0 firstDraws.draws).seq < (block 0 none 0 firstDraws.draws).cfg.nAxes + 2 ∧
    iterationsEnd 6 1 (block 0 none 0 firstDraws.draws) = some iterated ∧
    iterationsEnd 5 1 (block 0 none 0 firstDraws.draws) = none ∧
    waitsCompleted 6 (block 0 none 0 firstDraws.draws) = 1 ∧ waitsCompleted 5 (block 0 none 0 firstDraws.draws) = 0 :=
  ⟨rfl, by decide, rfl, rfl, rfl, rfl⟩

theorem test_witness_ObservedRunIsTheIterationLawRepeated :
    (block 0 none 0 firstDraws.draws).AtIterationStart ∧
    iterationsEnd 6 1 (block 0 none 0 firstDraws.draws) = some iterated := ⟨by decide, rfl⟩

/-- A block as reset leaves it meets the invariant, and an environment that always raises `period_elapsed` is weakly fair to it. -/
theorem test_witness_FairEnvironmentCompletesEveryIteration :
    (block 0 none 0 []).Inv ∧ (block 0 none 0 []).opList = none ∧ (block 0 none 0 []).fault = false ∧
    WeaklyFair (block 0 none 0 []) (fun _ => waking) := by
  refine ⟨⟨by decide, rfl, by decide, ?_, ?_, ?_, ?_, ?_⟩, rfl, rfl, fun _ => ⟨rfl, rfl⟩,
    fun n _ _ _ => ⟨n, Nat.le_refl n, rfl⟩⟩
  · intro r hr
    rw [List.eq_of_mem_replicate hr]
    exact ⟨by decide, rfl, fun u hu => by cases hu⟩
  · intro m h; cases h
  · intro h; exact absurd rfl h
  · intro a r h; simp [block] at h
  · intro h; cases h

theorem test_witness_FailureStopsEveryStep :
    (block 4 (some 10) 0 [failing]).draw.rst = false ∧ (block 4 (some 10) 0 [failing]).fault = false ∧
    (block 4 (some 10) 0 [failing]).draw.halFail = true := by decide

/-- A faulted block, and the two steps that set and clear the bit. -/
theorem test_witness_FaultIsStickyUntilReset :
    (({ block 2 none 0 [failing] with fault := true } : State).fault = true ∧
      ({ block 2 none 0 [failing] with fault := true } : State).draw.rst = false) ∧
    nextWith (fun t => !t.fault) (step { block 2 none 0 [resetting] with fault := true }) = true ∧
    nextWith (fun t => t.fault) (step (block 2 none 0 [failing])) = true := by decide

theorem test_witness_ResetDominatesEverything :
    (block 4 (some 10) 3 [resetting]).draw.rst = true ∧
    ({ State.reset with inputs := [resetting] } : State).draw.rst = true ∧
    ({ State.reset with inputs := [resetting] } : State).cfg = Params.reference :=
  ⟨by decide, by decide, rfl⟩

theorem test_witness_FirstIterationAfterReset :
    (block 3 none 9 [resetting, calm 0 0 0 0, calm 0 5 0 0]).inputs = resetting :: calm 0 0 0 0 :: calm 0 5 0 0 :: [] ∧
    1 ≤ (block 3 none 9 []).cfg.nAxes ∧
    resetting.rst = true ∧ PlainDraw (calm 0 0 0 0) ∧ PlainDraw (calm 0 5 0 0) := by decide

/-- A block that has latched and not yet updated meets the invariant and steps. -/
theorem test_witness_EveryStepKeepsTheBlockInvariant :
    (block 1 (some 10) 0 [calm 0 5 0 0]).Inv ∧ step (block 1 (some 10) 0 [calm 0 5 0 0]) = .next movedOnce := by
  refine ⟨⟨by decide, rfl, by decide, ?_, ?_, ?_, ?_, ?_⟩, rfl⟩
  · intro r hr
    rw [List.eq_of_mem_replicate hr]
    exact ⟨by decide, rfl, fun u hu => by cases hu⟩
  · intro m h; cases h; exact .inl rfl
  · intro _; rfl
  · intro a r h; simp [block] at h
  · intro h; cases h

theorem test_witness_FixedProgramIsNeverRefused :
    (block 1 (some 10) 0 [calm 0 5 0 0]).Inv ∧ (block 1 (some 10) 0 [calm 0 5 0 0]).opList = none :=
  ⟨test_witness_EveryStepKeepsTheBlockInvariant.1, rfl⟩

theorem test_witness_EachPieceOfStateHasItsWriters :
    step (block 1 (some 10) 0 [calm 0 5 0 0]) = .next movedOnce ∧
    movedOnce.axes[0]? ≠ (block 1 (some 10) 0 [calm 0 5 0 0]).axes[0]? ∧
    nextWith (fun t => decide (t.m ≠ none)) (step (block 0 none 0 [calm 0 0 0 0])) = true :=
  ⟨rfl, by decide, by decide⟩

theorem test_witness_HistoryIsNeverReadBack :
    step (block 1 (some 10) 0 [calm 0 5 0 0]) = .next movedOnce ∧
    step (listed [0x40#8] none [calm 0 0 0 0]) = .refused (.noMultiplier 0) := ⟨rfl, rfl⟩

theorem test_witness_CommittedValuesAreNeverReadInside :
    (List.replicate 3 ({ prev := 0, dir := some .forward, duty := some 7 } : Axis)).map Axis.prev =
      (block 1 (some 10) 0 [calm 0 5 0 0]).axes.map Axis.prev ∧
    step (block 1 (some 10) 0 [calm 0 5 0 0]) = .next movedOnce ∧
    step (listed [0x40#8] none [calm 0 0 0 0]) = .refused (.noMultiplier 0) := ⟨rfl, rfl, rfl⟩

theorem test_witness_OutputsFollowTheCommits :
    (movedOnce.fault = false ∧
      movedOnce.axisAt 0 = some { prev := 5, dir := some .forward, duty := some 50 }) ∧
    (block 0 none 0 []).axisAt 1 = some { prev := 0, dir := none, duty := none } ∧
    (step (block 1 (some 10) 0 [calm 0 5 0 0]) = .next movedOnce ∧
      commitO (block 1 (some 10) 0 [calm 0 5 0 0]) movedOnce 1 = some false) :=
  ⟨by decide, by decide, rfl, by decide⟩

theorem test_witness_StrobesOfEachOperation :
    (nextWith (fun _ => true) (exec .smul (block 0 none 0 [calm 0 0 0 0])) = true ∧
      (block 0 none 0 [calm 0 0 0 0]).Running) ∧
    (exec (.upd 0) (block 1 (some 10) 0 [calm 0 5 0 0]) = .next movedOnce) ∧
    (nextWith (fun _ => true) (exec .wait (block 4 none 0 [calm 0 0 0 0])) = true ∧
      (block 4 none 0 [calm 0 0 0 0]).Running) := ⟨by decide, rfl, by decide⟩

end Sys2Proof.Tests
end

/-! The two's complement value of a port word is the balanced remainder modulo `2^w`, so its range and its
congruence are the library's; then the statements on the count port and on the reference configuration
(00_scope.md R8, R10). -/

namespace Sys2Proof.Machine

/-- Ties the port word of 00_scope.md R10 to the library's balanced remainder. -/
theorem signedWord_eq_bmod (w : Nat) (x : Int) : signedWord w x = x.bmod (2 ^ w) := by
  have half (r m : Int) : 2 * r < m ↔ r < (m + 1) / 2 := by omega
  simp [signedWord, Int.bmod_def, half]

theorem signedRange_signedWord (w : Nat) (x : Int) : SignedRange w (signedWord w x) := by
  have hpos : 0 < 2 ^ w := Nat.two_pow_pos w
  have hlo := Int.le_bmod (x := x) hpos
  have hhi := Int.bmod_lt (x := x) hpos
  rw [← signedWord_eq_bmod] at hlo hhi
  push_cast at hlo hhi
  constructor <;> omega

theorem signedWord_modEq (w : Nat) (x : Int) : signedWord w x ≡ x [ZMOD 2 ^ w] := by
  have h := Int.bmod_emod (x := x) (m := 2 ^ w)
  rwa [← signedWord_eq_bmod, Nat.cast_pow] at h

theorem signedWord_of_signedRange {w : Nat} {x : Int} (h : SignedRange w x) : signedWord w x = x := by
  obtain ⟨hlo, hhi⟩ := h
  rw [signedWord_eq_bmod]
  apply Int.bmod_eq_of_le_mul_two <;> push_cast <;> omega

/-- On a word that is given by its unsigned value, the top bit decides (00_scope.md R10). -/
theorem signedWord_of_lt_two_pow {w : Nat} {x : Int} (h0 : 0 ≤ x) (hx : x < 2 ^ w) :
    signedWord w x = if 2 ^ w ≤ 2 * x then x - 2 ^ w else x := by
  rw [signedWord, Int.emod_eq_of_lt h0 hx]
  split_ifs <;> omega

theorem countOn_of_paramsLegal {p : Params} (hp : ParamsLegal p) (d : Inputs) (a : Nat) :
    countOn p d a = signedWord 16 (portCount d a) := by
  obtain ⟨-, -, hw, -⟩ := hp
  rw [countOn, hw]

theorem dutyMax_of_paramsLegal {p : Params} (hp : ParamsLegal p) : dutyMax p = 1023 := by
  obtain ⟨-, -, -, hres, -⟩ := hp
  simp [dutyMax, hres]

theorem paramsLegal_reference : ParamsLegal Params.reference := by decide

/-- Settles O9: the word by its top bit, the count read by the range and the congruence of a 16-bit port word. -/
theorem countPortIsTwosComplement : Obligations.CountPortIsTwosComplement := by
  refine ⟨fun w h0 hw => ?_, fun p d a hp => ?_⟩
  · rw [signedWord_of_lt_two_pow h0 hw]
    split_ifs <;> omega
  · rw [countOn_of_paramsLegal hp]
    exact ⟨signedRange_signedWord 16 _, Int.emod_eq_emod_iff_emod_sub_eq_zero.mp (signedWord_modEq 16 _),
      signedWord_of_signedRange⟩

/-- Settles O37: the reference record is the document's field by field, and legality fixes the duty's resolution. -/
theorem referenceConfigurationIsTheDocuments : Obligations.ReferenceConfigurationIsTheDocuments :=
  ⟨rfl, paramsLegal_reference, fun p => ⟨rfl, dutyMax_of_paramsLegal, p.periodMs.pos⟩⟩

end Sys2Proof.Machine

/-! What a step can do, as one inversion with a named case for each kind of step, and the facts about the decoder, the
advance, the draw and the ports that the statements on the state rest on (10_state.md). -/

namespace Sys2Proof.Machine

variable {s t : State}

/-! ### The word of an operation -/

theorem decode_encode {n : Nat} {i : Instr} (h : i.wellFormed n = true) : decode n (encode i) = .ok i := by
  cases i with
  | smul => simp [decode, encode]
  | upd a => simpa [decode, encode, Instr.wellFormed] using h
  | wait => simp [decode, encode]

theorem encode_injective : Function.Injective encode := by
  have decodes (i : Instr) : decode 4 (encode i) = .ok i := by
    apply decode_encode
    cases i with
    | smul => rfl
    | upd a => exact decide_eq_true a.isLt
    | wait => rfl
  intro i j h
  exact Except.ok.inj ((decodes i).symm.trans (h ▸ decodes j))

theorem packFields_fields (w : OpWord) : packFields (fieldCls w) (fieldZ w) (fieldA w) = w := by
  revert w; decide

/-- A word that decodes is the word of its operation (30_encoding.md R74). -/
theorem encode_of_decode {n : Nat} {w : OpWord} {i : Instr} (h : decode n w = .ok i) : encode i = w := by
  rw [← packFields_fields w]
  unfold decode at h
  split at h
  · cases h
  rename_i hz
  have hz : fieldZ w = 0 := not_not.mp hz
  split at h
  · split at h <;> cases h
    simp [encode, *]
  · split at h
    · split at h <;> cases h
      simp [encode, *]
    · split at h
      · split at h <;> cases h
        simp [encode, *]
      · cases h

/-! ### The program -/

theorem eq_zero_of_prog_smul {n q : Nat} (h : prog n q = .smul) : q = 0 := by
  unfold prog at h
  split_ifs at h
  assumption

/-- In a block of at most four axes the 2-bit operand of `UPD` gives the position back. -/
theorem eq_of_prog_upd {n q : Nat} {a : BitVec 2} (hn : n ≤ 4) (h : prog n q = .upd a) :
    q = a.toNat + 1 ∧ a.toNat < n := by
  unfold prog at h
  split_ifs at h with h0 hq
  cases h
  rw [BitVec.toNat_ofNat]
  omega

theorem lt_of_prog_wait {n q : Nat} (h : prog n q = .wait) : n < q := by
  unfold prog at h
  split_ifs at h
  omega

/-! ### The fetch and the advance -/

theorem State.fetch_congr (hc : t.cfg = s.cfg) (hq : t.seq = s.seq) (hl : t.opList = s.opList) :
    t.fetch = s.fetch := by
  simp only [State.fetch, hc, hq, hl]

/-- An operation-word list holds the place of `seq`, so only the wired program moves it (42_control_loop.md R170). -/
theorem State.advance_seq (s : State) :
    s.advance.seq = if s.opList = none then nextSeq s.cfg.nAxes s.seq else s.seq := by
  cases h : s.opList with
  | none => simpa using (s.advance_wired h).1
  | some l => simpa using (s.advance_listed l h).1

/-- A state `u` that still stands where `s` stands stays there when it advances, or the operation that `s` fetched is
the program's own and `u` goes on from it (42_control_loop.md R161, R170). -/
theorem State.advance_seq_of_fetch {i : Instr} {u : State} (hw : s.fetch = some (encode i)) (hc : u.cfg = s.cfg)
    (hq : u.seq = s.seq) (hl : u.opList = s.opList) :
    u.advance.seq = s.seq ∨ prog s.cfg.nAxes s.seq = i ∧ u.advance.seq = nextSeq s.cfg.nAxes s.seq := by
  rw [u.advance_seq, hc, hq, hl]
  cases hs : s.opList with
  | some l => exact .inl rfl
  | none =>
    simp only [State.fetch, hs, Option.some.injEq] at hw
    exact .inr ⟨encode_injective hw, rfl⟩

/-! ### The frame of a step -/

theorem exists_exec_eq_attempt (s : State) (i : Instr) : ∃ body, exec i s = s.attempt body := by
  cases i with
  | smul => exact ⟨_, rfl⟩
  | upd a => exact ⟨_, rfl⟩
  | wait => exact ⟨_, rfl⟩

theorem exists_step_eq_attempt (s : State) : ∃ body, step s = s.attempt body := by
  unfold step cycle
  split
  · exact ⟨_, rfl⟩
  · split
    · exact exists_exec_eq_attempt s _
    · exact ⟨_, rfl⟩

/-- The kinds of step that answer a next state: reset, a stuck block, a failure, and each operation's own effect under
the word that was fetched (60_exceptions.md R225, 42_control_loop.md R161). -/
inductive StepEffect (s : State) : State → Prop
  | reset (hr : s.draw.rst = true) : StepEffect s s.takeReset
  | stuck (hr : s.draw.rst = false) (hf : s.fault = true) : StepEffect s s.consume
  | failure (hr : s.draw.rst = false) (hf : s.fault = false) (hh : s.draw.halFail = true) :
    StepEffect s s.takeHalFailure
  | smul (h : s.Running) (hw : s.fetch = some (encode .smul)) :
    StepEffect s
      ((s.record (.selRead (s.draw.sel.getLsbD 0) (s.draw.sel.getLsbD 1) (s.draw.sel.getLsbD 2))).latch
        (select s.cfg (s.draw.sel.getLsbD 0) (s.draw.sel.getLsbD 1) (s.draw.sel.getLsbD 2))).advance.consume
  | upd (h : s.Running) (a : BitVec 2) (hw : s.fetch = some (encode (.upd a))) {r : Axis}
    (ha : s.axisAt a.toNat = some r) {m : Nat} (hm : s.m = some m) :
    StepEffect s (s.updateAxis a.toNat r m).advance.consume
  | wake (h : s.Running) (hw : s.fetch = some (encode .wait)) (hp : s.draw.periodElapsed = true) :
    StepEffect s (s.requestSleep.setSleeping false).advance.consume
  | hold (h : s.Running) (hw : s.fetch = some (encode .wait)) (hp : s.draw.periodElapsed = false) :
    StepEffect s s.requestSleep.consume

theorem stepEffect_of_step (h : step s = .next t) : StepEffect s t := by
  obtain ⟨hr, rfl⟩ | ⟨hr, hf, rfl⟩ | ⟨hr, hf, hh, rfl⟩ | ⟨hrun, w, i, hw, hd, he⟩ := step_next h
  · exact .reset hr
  · exact .stuck hr hf
  · exact .failure hr hf hh
  · rw [← encode_of_decode hd] at hw
    obtain ⟨rfl, rfl⟩ | ⟨a, r, m, rfl, ha, hm, rfl⟩ | ⟨rfl, hp, rfl⟩ | ⟨rfl, hp, rfl⟩ := exec_running_next hrun he
    · exact .smul hrun hw
    · exact .upd hrun a hw ha hm
    · exact .wake hrun hw hp
    · exact .hold hrun hw hp

/-! ### The ports -/

/-- A port's level depends on the fault bit, the configuration and its axis record alone (10_state.md R34). -/
theorem State.levels_congr {a : Nat} (hf : t.fault = s.fault) (hc : t.cfg = s.cfg) (ha : t.axes[a]? = s.axes[a]?) :
    t.dirO a = s.dirO a ∧ t.dutyO a = s.dutyO a := by
  simp only [State.dirO, State.dutyO, State.axisAt, hf, hc, ha, and_self]

end Sys2Proof.Machine

/-! The invariant of the block: what reset and a commit leave in an axis record, what the program has done before each
of its positions, and the step that keeps both (10_state.md R22 to R27). -/

namespace Sys2Proof.Machine

variable {s t : State}

/-! ### What one update commits -/

theorem dirMag_magnitude (v : Int) : (dirMag v).2 = v.natAbs := by
  unfold dirMag
  split <;> simp only <;> omega

theorem dirMag_forward_iff (v : Int) : (dirMag v).1 = .forward ↔ 0 < v := by
  simp [dirMag, apply_ite Prod.fst]

theorem commandedDuty_eq_min (p : Params) (c prev : Int) (m : Nat) :
    commandedDuty p c prev m = min ((c - prev).natAbs * m) (dutyMax p) := by
  rw [commandedDuty, dirMag_magnitude, delta, scale, sat]

theorem commandedDir_eq_forward_iff (c prev : Int) : commandedDir c prev = .forward ↔ prev < c := by
  rw [commandedDir, dirMag_forward_iff, delta, Int.sub_pos]

/-! ### Axis records -/

theorem Axis.inv_atReset {p : Params} (hp : ParamsLegal p) : (Axis.atReset p).Inv p := by
  obtain ⟨-, -, hw, -, -, -, -, -, hprev⟩ := hp
  exact ⟨hw ▸ hprev, rfl, nofun⟩

/-- Every tier is a multiple of 10, and a positive velocity has a positive product below the clamp (40_axis_controller.md
R104, R112). -/
theorem Axis.inv_committed {p : Params} (hp : ParamsLegal p) {m : Nat} (hm : m = 10 ∨ m = 100 ∨ m = 1000)
    {c prev : Int} (hc : SignedRange p.countW c) :
    ({ prev := c, dir := some (commandedDir c prev), duty := some (commandedDuty p c prev m) } : Axis).Inv p := by
  refine ⟨hc, rfl, ?_⟩
  rintro _ ⟨⟩
  have hten : 10 ∣ m := by omega
  have hmax : 0 < dutyMax p := by rw [dutyMax_of_paramsLegal hp]; omega
  rw [commandedDuty_eq_min, Option.some.injEq, commandedDir_eq_forward_iff]
  refine ⟨Nat.min_le_right _ _, fun hfwd => ?_, ?_⟩
  · exact lt_min (Nat.mul_pos (by omega) (by omega)) hmax
  · rcases min_choice ((c - prev).natAbs * m) (dutyMax p) with h | h <;> rw [h]
    · exact .inr (hten.mul_left _)
    · exact .inl rfl

theorem select_tier {p : Params} (hp : ParamsLegal p) (i1 i2 i3 : Bool) :
    select p i1 i2 i3 = 10 ∨ select p i1 i2 i3 = 100 ∨ select p i1 i2 i3 = 1000 := by
  obtain ⟨-, -, -, -, h1, h2, h3, hd, -⟩ := hp
  unfold select
  split_ifs <;> omega

/-! ### What the program has done before a position -/

/-- Before position `q` of the program a multiplier has been latched, if `q` is past `SMUL`, and axis `a` has
committed, if `q` is past `UPD a` (41_scale_selector.md R145, 70_reset_and_hazards.md R255). -/
def State.ReadyAt (s : State) (q : Nat) : Prop :=
  (q ≠ 0 → s.m.isSome = true) ∧ ∀ a r, a + 1 < q → s.axes[a]? = some r → r.dir.isSome = true

theorem State.readyAt_zero (s : State) : s.ReadyAt 0 :=
  ⟨fun h => absurd rfl h, fun _ _ h => absurd h (Nat.not_lt_zero _)⟩

theorem State.ReadyAt.of_eq {q : Nat} (h : s.ReadyAt q) (hm : t.m = s.m) (ha : t.axes = s.axes) : t.ReadyAt q := by
  rwa [State.ReadyAt, hm, ha]

theorem State.ReadyAt.of_latched {q q' : Nat} (h : s.ReadyAt q) (hq : q' ≤ q ∨ q' = 1) (hm : t.m.isSome = true)
    (ha : t.axes = s.axes) : t.ReadyAt q' :=
  ⟨fun _ => hm, fun a r hlt hr => h.2 a r (by omega) (ha ▸ hr)⟩

/-- `UPD a` makes the block ready for the position after its own, and leaves it ready where it was. -/
theorem State.ReadyAt.updateAxis {q q' a : Nat} (h : s.ReadyAt q) (hq : ∀ b, b ≠ a → b + 1 < q' → b + 1 < q) {x : Nat}
    (hx : s.m = some x) (r : Axis) : (s.updateAxis a r x).ReadyAt q' := by
  refine ⟨fun _ => by simp [hx], fun b r' hlt hr' => ?_⟩
  rw [State.updateAxis_axes] at hr'
  rw [List.getElem?_set] at hr'
  split_ifs at hr' with hb
  · cases hr'; rfl
  · exact h.2 b r' (hq b (Ne.symm hb) hlt) hr'

/-! ### What one step keeps -/

theorem StepEffect.cfg_eq (h : StepEffect s t) : t.cfg = s.cfg := by
  cases h <;> simp

theorem StepEffect.axes_length (h : StepEffect s t) (hs : s.axes.length = s.cfg.nAxes) :
    t.axes.length = s.cfg.nAxes := by
  cases h <;> simp [hs]

theorem StepEffect.axes_inv (h : StepEffect s t) (hp : ParamsLegal s.cfg)
    (hm : ∀ m, s.m = some m → m = 10 ∨ m = 100 ∨ m = 1000) (hs : ∀ r ∈ s.axes, r.Inv s.cfg) :
    ∀ r ∈ t.axes, r.Inv s.cfg := by
  cases h with
  | reset =>
    intro r hr
    rw [List.eq_of_mem_replicate hr]
    exact Axis.inv_atReset hp
  | upd _ a _ _ hx =>
    intro r hr
    simp only [State.consume_axes, State.advance_axes, State.updateAxis_axes] at hr
    obtain hr | rfl := List.mem_or_eq_of_mem_set hr
    · exact hs r hr
    · exact Axis.inv_committed hp (hm _ hx) (signedRange_signedWord _ _)
  | stuck | failure | smul | wake | hold => simpa using hs

theorem StepEffect.latch_tier (h : StepEffect s t) (hp : ParamsLegal s.cfg)
    (hs : ∀ m, s.m = some m → m = 10 ∨ m = 100 ∨ m = 1000) :
    ∀ m, t.m = some m → m = 10 ∨ m = 100 ∨ m = 1000 := by
  cases h with
  | reset => nofun
  | smul => simpa using select_tier hp _ _ _
  | stuck | failure | upd | wake | hold => simpa using hs

/-- A completed operation leaves the block where it was in an operation list, else at the position after its own: a
state `u` that stands where `s` stands and is ready for both is ready after its advance. -/
theorem State.readyAt_advance {i : Instr} {u : State} (hw : s.fetch = some (encode i)) (hc : u.cfg = s.cfg)
    (hq : u.seq = s.seq) (hl : u.opList = s.opList) (hlt : s.seq < s.cfg.nAxes + 2) (hstay : u.ReadyAt s.seq)
    (hgo : prog s.cfg.nAxes s.seq = i → u.ReadyAt (nextSeq s.cfg.nAxes s.seq)) :
    u.advance.consume.seq < s.cfg.nAxes + 2 ∧ u.advance.consume.ReadyAt u.advance.consume.seq := by
  rw [State.consume_seq]
  obtain hk | ⟨hi, hk⟩ := State.advance_seq_of_fetch hw hc hq hl <;> rw [hk]
  · exact ⟨hlt, hstay.of_eq (by simp) (by simp)⟩
  · exact ⟨Nat.mod_lt _ (Nat.succ_pos _), (hgo hi).of_eq (by simp) (by simp)⟩

theorem StepEffect.readyAt_seq (h : StepEffect s t) (hn : s.cfg.nAxes ≤ 4) (hq : s.seq < s.cfg.nAxes + 2)
    (hs : s.ReadyAt s.seq) : t.seq < s.cfg.nAxes + 2 ∧ t.ReadyAt t.seq := by
  cases h with
  | reset => exact ⟨Nat.succ_pos _, State.readyAt_zero _⟩
  | stuck | failure => exact ⟨hq, hs⟩
  | hold => simpa using ⟨hq, hs.of_eq (by simp) (by simp)⟩
  | smul _ hw =>
    refine State.readyAt_advance hw rfl rfl rfl hq (hs.of_latched (.inl le_rfl) rfl rfl) fun hi => ?_
    have hnext : nextSeq s.cfg.nAxes s.seq = 1 := by
      rw [eq_zero_of_prog_smul hi]; exact Nat.mod_eq_of_lt (by omega)
    exact hs.of_latched (.inr hnext) rfl rfl
  | upd _ a hw _ hm =>
    refine State.readyAt_advance hw rfl rfl rfl hq (hs.updateAxis (fun _ _ => id) hm _) fun hi => ?_
    obtain ⟨hseq, ha⟩ := eq_of_prog_upd hn hi
    have hnext : nextSeq s.cfg.nAxes s.seq = s.seq + 1 := Nat.mod_eq_of_lt (by omega)
    exact hs.updateAxis (fun b hb hlt => by omega) hm _
  | wake _ hw =>
    refine State.readyAt_advance hw (by simp) (by simp) (by simp) hq (hs.of_eq (by simp) (by simp)) fun hi => ?_
    have hlast := lt_of_prog_wait hi
    have hnext : nextSeq s.cfg.nAxes s.seq = 0 := Nat.mod_eq_zero_of_dvd ⟨1, by omega⟩
    exact hnext ▸ State.readyAt_zero _

/-- The block holds only in a `WAIT`: an operation that fetched another word found the block not holding
(42_control_loop.md R166). -/
theorem StepEffect.holds_in_wait (h : StepEffect s t) (hs : s.sleeping = true → s.fetch = some (encode .wait)) :
    t.sleeping = true → t.fetch = some (encode .wait) := by
  have not_other {i : Instr} (hw : s.fetch = some (encode i)) (hi : i ≠ .wait) : s.sleeping ≠ true := fun h =>
    hi (encode_injective (Option.some.inj (hw.symm.trans (hs h))))
  cases h with
  | reset => nofun
  | stuck | failure => exact hs
  | smul _ hw => simpa using fun h => absurd h (not_other hw nofun)
  | upd _ a hw => simpa using fun h => absurd h (not_other hw nofun)
  | wake => simp
  | hold _ hw => exact fun _ => (State.fetch_congr (by simp) (by simp) (by simp)).trans hw

theorem StepEffect.inv (h : StepEffect s t) (hs : s.Inv) : t.Inv := by
  obtain ⟨hp, hlen, hq, hax, htier, hlatch, hcommitted, hwait⟩ := hs
  obtain ⟨hq', hlatch', hcommitted'⟩ := h.readyAt_seq hp.2.1 hq ⟨hlatch, hcommitted⟩
  rw [State.Inv, h.cfg_eq]
  exact ⟨hp, h.axes_length hlen, hq', h.axes_inv hp htier hax, h.latch_tier hp htier, hlatch', hcommitted',
    h.holds_in_wait hwait⟩

/-- Settles O40: the inversion of a step, then the invariant clause by clause over the kinds of step. -/
theorem everyStepKeepsTheBlockInvariant : Obligations.EveryStepKeepsTheBlockInvariant :=
  fun _ _ hs h => (stepEffect_of_step h).inv hs

/-- Settles O39: no axis has committed, nothing is latched and the block does not hold. -/
theorem resetMeetsTheBlockInvariant : Obligations.ResetMeetsTheBlockInvariant := by
  obtain ⟨hlatch, hcommitted⟩ := State.reset.readyAt_zero
  refine ⟨paramsLegal_reference, rfl, by decide, fun r hr => ?_, nofun, hlatch, hcommitted, nofun⟩
  rw [List.eq_of_mem_replicate hr]
  exact Axis.inv_atReset paramsLegal_reference

end Sys2Proof.Machine

/-! Nothing inside the block reads a committed direction or duty (10_state.md R23, R24): two blocks whose axis records
agree in their previous counts step alike. -/

namespace Sys2Proof.Machine

/-- The state with the axis records `xs`. -/
def State.withAxes (s : State) (xs : List Axis) : State := { s with axes := xs }

/-- The same previous counts: two lists of axis records that differ in directions and duties at most. -/
abbrev SamePrevs (xs ys : List Axis) : Prop := xs.map Axis.prev = ys.map Axis.prev

/-- The same refusal, or next states that differ in committed directions and duties at most. -/
inductive SameButCommits : Host.Outcome State Fault Refusal → Host.Outcome State Fault Refusal → Prop
  | next {t : State} {ys : List Axis} (h : SamePrevs ys t.axes) : SameButCommits (.next t) (.next (t.withAxes ys))
  | refused (r : Refusal) : SameButCommits (.refused r) (.refused r)

variable {s : State} {xs ys : List Axis}

@[simp] theorem State.withAxes_cfg : (s.withAxes xs).cfg = s.cfg := rfl
@[simp] theorem State.withAxes_m : (s.withAxes xs).m = s.m := rfl
@[simp] theorem State.withAxes_draw : (s.withAxes xs).draw = s.draw := rfl
@[simp] theorem State.withAxes_fetch : (s.withAxes xs).fetch = s.fetch := rfl
@[simp] theorem State.withAxes_axisAt (a : Nat) :
    (s.withAxes xs).axisAt a = if a < s.cfg.nAxes then xs[a]? else none := rfl

theorem State.withAxes_advance : (s.withAxes xs).advance = s.advance.withAxes xs := by
  cases h : s.opList <;> simp [State.advance, State.withAxes, h]

theorem State.withAxes_requestSleep : (s.withAxes xs).requestSleep = s.requestSleep.withAxes xs := by
  cases h : s.sleeping <;> simp [State.requestSleep, State.withAxes, h, State.record, State.setSleeping]

/-- An update reads the previous count of its record alone. -/
theorem State.withAxes_updateAxis {a : Nat} {r r' : Axis} (hr : r'.prev = r.prev) (m : Nat) :
    (s.withAxes xs).updateAxis a r' m = (s.updateAxis a r m).withAxes (xs.set a
      { prev := s.readCount a
        dir := some (commandedDir (s.readCount a) r.prev)
        duty := some (commandedDuty s.cfg (s.readCount a) r.prev m) }) := by
  unfold State.updateAxis
  rw [hr]
  rfl

theorem SamePrevs.set (h : SamePrevs xs ys) (a : Nat) (r : Axis) : SamePrevs (xs.set a r) (ys.set a r) := by
  rw [SamePrevs, List.map_set, List.map_set, h]

/-- An axis has a record in both blocks or in neither, with the same previous count. -/
theorem SamePrevs.map_prev_axisAt (h : SamePrevs xs s.axes) (a : Nat) :
    ((s.withAxes xs).axisAt a).map Axis.prev = (s.axisAt a).map Axis.prev := by
  have hget := congrArg (·[a]?) h
  simp only [List.getElem?_map] at hget
  rw [State.withAxes_axisAt, State.axisAt, apply_ite (Option.map _), apply_ite (Option.map _), hget]

theorem SameButCommits.advance (h : SamePrevs xs s.axes) :
    SameButCommits (.next s.advance.consume) (.next (s.withAxes xs).advance.consume) := by
  have hadvance : SamePrevs xs s.advance.axes := by rwa [State.advance_axes]
  rw [State.withAxes_advance]
  exact .next (t := s.advance.consume) hadvance

theorem SameButCommits.attempt {b b' : Host.Outcome State Fault Refusal} (h : SamePrevs xs s.axes)
    (hb : SameButCommits b b') : SameButCommits (s.attempt b) ((s.withAxes xs).attempt b') := by
  cases hr : s.draw.rst with
  | true =>
    rw [s.attempt_reset hr, (s.withAxes xs).attempt_reset hr]
    exact .next (t := s.takeReset) (ys := s.takeReset.axes) rfl
  | false =>
    cases hf : s.fault with
    | true =>
      rw [s.attempt_stuck hr hf, (s.withAxes xs).attempt_stuck hr hf]
      exact .next (t := s.consume) h
    | false =>
      cases hh : s.draw.halFail with
      | true =>
        rw [s.attempt_failure hr hf hh, (s.withAxes xs).attempt_failure hr hf hh]
        exact .next (t := s.takeHalFailure) h
      | false =>
        have hrun : s.Running := ⟨hr, hh, hf⟩
        rwa [s.attempt_running hrun, (s.withAxes xs).attempt_running hrun]

theorem exec_sameButCommits (h : SamePrevs xs s.axes) (i : Instr) :
    SameButCommits (exec i s) (exec i (s.withAxes xs)) := by
  cases i with
  | smul => exact .attempt h (.advance (s := (s.record _).latch _) h)
  | upd a =>
    apply SameButCommits.attempt h
    have hprev := h.map_prev_axisAt a.toNat
    cases hs : s.axisAt a.toNat with
    | none =>
      rw [hs, Option.map_none, Option.map_eq_none_iff] at hprev
      rw [hprev]
      exact .refused _
    | some r =>
      rw [hs, Option.map_some, Option.map_eq_some_iff] at hprev
      obtain ⟨r', hr', hrr⟩ := hprev
      rw [hr', State.withAxes_m]
      cases s.m with
      | none => exact .refused _
      | some m =>
        simp only [State.withAxes_updateAxis hrr]
        exact .advance (h.set _ _)
  | wait =>
    apply SameButCommits.attempt h
    rw [State.withAxes_draw, State.withAxes_requestSleep]
    have hsleep : SamePrevs xs s.requestSleep.axes := by simpa using h
    split_ifs
    · exact .advance (s := s.requestSleep.setSleeping false) hsleep
    · exact .next (t := s.requestSleep.consume) hsleep

theorem step_sameButCommits (h : SamePrevs xs s.axes) : SameButCommits (step s) (step (s.withAxes xs)) := by
  simp only [step, cycle, State.withAxes_fetch, State.withAxes_cfg]
  split
  · exact .attempt h (.refused _)
  · split
    · exact exec_sameButCommits h _
    · exact .attempt h (.refused _)

/-- Settles O44: the two steps answer the same refusal or next states that differ in the axis records alone. -/
theorem committedValuesAreNeverReadInside : Obligations.CommittedValuesAreNeverReadInside := by
  intro s other h
  have hstep := step_sameButCommits h
  refine ⟨fun t ht => ?_, fun r hr => ?_⟩
  · rw [ht] at hstep
    generalize hs' : step (s.withAxes other) = o at hstep
    obtain ⟨hys⟩ := hstep
    exact ⟨_, hs', rfl, rfl, rfl, rfl, rfl, rfl, rfl, hys⟩
  · rw [hr] at hstep
    generalize hs' : step (s.withAxes other) = o at hstep
    cases hstep
    exact hs'

end Sys2Proof.Machine

/-! What sets and clears the fault bit, what writes each piece of state, and what the ports show of a step
(10_state.md R22 to R34). -/

namespace Sys2Proof.Machine

variable {s t : State}

/-- Settles O36: the reference configuration has three axes and `PREV_RESET` 0. -/
theorem resetStateHasTheResetValues : Obligations.ResetStateHasTheResetValues :=
  ⟨rfl, rfl, rfl, rfl, rfl⟩

/-! ### The fault bit -/

theorem step_stuck (hr : s.draw.rst = false) (hf : s.fault = true) : step s = .next s.consume := by
  obtain ⟨body, hbody⟩ := exists_step_eq_attempt s
  rw [hbody, s.attempt_stuck hr hf]

theorem exec_stuck (hr : s.draw.rst = false) (hf : s.fault = true) (i : Instr) : exec i s = .next s.consume := by
  obtain ⟨body, hbody⟩ := exists_exec_eq_attempt s i
  rw [hbody, s.attempt_stuck hr hf]

/-- A step that is no reset and no failure leaves the fault bit. -/
theorem StepEffect.fault_cases (h : StepEffect s t) :
    s.draw.rst = true ∧ t.fault = false ∨ s.draw.halFail = true ∧ t.fault = true ∨ t.fault = s.fault := by
  cases h with
  | reset hr => exact .inl ⟨hr, rfl⟩
  | failure _ _ hh => exact .inr (.inl ⟨hh, rfl⟩)
  | stuck | smul | upd | wake | hold => exact .inr (.inr (by simp))

/-- Settles O34: the stuck block only takes a draw, a reset alone can clear the bit and a failure alone can set it. -/
theorem faultIsStickyUntilReset : Obligations.FaultIsStickyUntilReset := by
  refine ⟨fun s hf hr => ⟨s.consume, step_stuck hr hf, exec_stuck hr hf, rfl⟩, fun s t h hf hf' => ?_,
    fun s t h hf hf' => ?_⟩
  · obtain ⟨hr, -⟩ | ⟨-, ht⟩ | ht := (stepEffect_of_step h).fault_cases
    · exact hr
    · cases ht.symm.trans hf'
    · cases hf.symm.trans (ht.symm.trans hf')
  · obtain ⟨-, ht⟩ | ⟨hh, -⟩ | ht := (stepEffect_of_step h).fault_cases
    · cases ht.symm.trans hf'
    · exact hh
    · cases hf.symm.trans (ht.symm.trans hf')

/-! ### The writers of each piece of state -/

theorem StepEffect.axis_writer (h : StepEffect s t) {a : Nat} (ha : t.axes[a]? ≠ s.axes[a]?) :
    s.draw.rst = true ∨ s.fetch = some (encode (.upd (BitVec.ofNat 2 a))) := by
  cases h with
  | reset hr => exact .inl hr
  | upd _ b hw =>
    have hb : b.toNat = a := by
      by_contra hne
      exact ha (by simp [List.getElem?_set_ne hne])
    rw [← hb, BitVec.ofNat_toNat, BitVec.setWidth_eq]
    exact .inr hw
  | stuck | failure | smul | wake | hold => exact absurd (by simp) ha

theorem StepEffect.latch_writer (h : StepEffect s t) (hm : t.m ≠ s.m) :
    s.draw.rst = true ∨ s.fetch = some (encode .smul) := by
  cases h with
  | reset hr => exact .inl hr
  | smul _ hw => exact .inr hw
  | stuck | failure | upd | wake | hold => exact absurd (by simp) hm

theorem StepEffect.seq_cases (h : StepEffect s t) :
    t.seq = s.seq ∨ s.draw.rst = true ∨ t.seq = (s.seq + 1) % (s.cfg.nAxes + 2) := by
  cases h with
  | reset hr => exact .inr (.inl hr)
  | stuck | failure | hold => exact .inl (by simp)
  | smul | upd | wake =>
    rw [State.consume_seq, State.advance_seq]
    split_ifs
    · exact .inr (.inr (by simp [nextSeq]))
    · exact .inl (by simp)

/-- Settles O42: a writer for each piece of state, read off the kinds of step. -/
theorem eachPieceOfStateHasItsWriters : Obligations.EachPieceOfStateHasItsWriters := by
  intro s t h
  have effect := stepEffect_of_step h
  exact ⟨fun _ => effect.axis_writer, effect.latch_writer, effect.seq_cases, effect.cfg_eq⟩

/-! ### The output ports -/

theorem commitO_updateAxis {a b : Nat} (hf : s.fault = false) (r : Axis) (m : Nat) :
    commitO s (s.updateAxis a r m).advance.consume b = some (decide (b = a)) := by
  simp [commitO, newEvents, hf, eq_comm]

/-- A `WAIT` that completes and one that holds add the same events: one sleep request on entry (42_control_loop.md
R162). -/
theorem strobes_of_requestSleep {u : State} (hs : s.fault = false) (hf : u.fault = s.fault)
    (hh : u.history = s.requestSleep.history) :
    sleepReq s u = some (!s.sleeping) ∧ ∀ b, commitO s u b = some false := by
  rw [State.requestSleep_history] at hh
  cases hsl : s.sleeping <;> simp [sleepReq, commitO, newEvents, hh, hf, hs, hsl]

/-- Without reset, standing fault and commit of its axis a step leaves a port's level (10_state.md R34). -/
theorem StepEffect.levels_eq (h : StepEffect s t) {a : Nat} (hr : s.draw.rst = false) (hf : t.fault = false)
    (hc : commitO s t a = some false) : t.dirO a = s.dirO a ∧ t.dutyO a = s.dutyO a := by
  cases h with
  | reset hr' => exact absurd hr' (ne_true_of_eq_false hr)
  | failure => cases hf
  | upd _ b =>
    rw [commitO_updateAxis (by simpa using hf), Option.some.injEq, decide_eq_false_iff_not] at hc
    exact State.levels_congr (by simp) (by simp) (by simp [List.getElem?_set_ne (Ne.symm hc)])
  | stuck | smul | wake | hold => exact State.levels_congr (by simp) (by simp) (by simp)

theorem dirLevel_eq_ite (fwd : Level) (d : Dir) : dirLevel fwd d = if d = .forward then fwd else 1#1 - fwd := by
  cases d <;> rfl

/-- Settles O45: the levels by the axis record, and the frame of a step that does not commit the axis. -/
theorem outputsFollowTheCommits : Obligations.OutputsFollowTheCommits := by
  refine ⟨fun s a ⟨_, _, _⟩ d u hf ha hd hu => ?_, fun s a ⟨_, dir, duty⟩ ha hnone => ?_,
    fun s t a h hr hf hc => (stepEffect_of_step h).levels_eq hr hf hc⟩
  · subst hd hu
    simp [State.dirO, State.dutyO, hf, ha, dirLevel_eq_ite]
  · obtain rfl | rfl : dir = none ∨ duty = none := hnone
    · simp [State.dirO, State.dutyO, ha]
    · cases dir <;> simp [State.dirO, State.dutyO, ha]

/-- Settles O46: the events each operation adds are the equations of its history. -/
theorem strobesOfEachOperation : Obligations.StrobesOfEachOperation := by
  refine ⟨fun s t hrun he => ?_, fun s t a hrun he => ?_, fun s t hrun he => ?_⟩
  · obtain ⟨-, rfl⟩ | ⟨_, _, _, ⟨⟩, -⟩ | ⟨⟨⟩, -⟩ | ⟨⟨⟩, -⟩ := exec_running_next hrun he
    obtain ⟨-, -, hf⟩ := hrun
    simp [sleepReq, commitO, newEvents, hf]
  · obtain ⟨⟨⟩, -⟩ | ⟨_, r, m, ⟨⟩, -, -, rfl⟩ | ⟨⟨⟩, -⟩ | ⟨⟨⟩, -⟩ := exec_running_next hrun he
    obtain ⟨-, -, hf⟩ := hrun
    exact ⟨by simp [sleepReq, newEvents, hf], fun b => commitO_updateAxis hf r m⟩
  · obtain ⟨⟨⟩, -⟩ | ⟨_, _, _, ⟨⟩, -⟩ | ⟨-, -, rfl⟩ | ⟨-, -, rfl⟩ := exec_running_next hrun he
    all_goals
      obtain ⟨-, -, hf⟩ := hrun
      exact strobes_of_requestSleep hf (by simp) (by simp)

end Sys2Proof.Machine

/-! `UPD a` writes its own axis record and adds its own events: what it leaves alone, and what two updates of different
axes do together (20_memory.md R61, 42_control_loop.md R168). -/

namespace Sys2Proof.Machine

variable {s t : State}

/-! ### One update -/

/-- Ties the direction an update commits to the iteration law (42_control_loop.md R167). -/
theorem commandedDir_eq_iterationDir (r : Axis) (c : Int) : commandedDir c r.prev = iterationDir r c :=
  apply_ite Prod.fst _ _ _

/-- Ties the duty an update commits to the iteration law (42_control_loop.md R167). -/
theorem commandedDuty_eq_iterationDuty (p : Params) (m : Nat) (r : Axis) (c : Int) :
    commandedDuty p c r.prev m = iterationDuty p m r c :=
  commandedDuty_eq_min p c r.prev m

theorem State.updateAxis_axes_eq_set_iterationAxis (a : Nat) (r : Axis) (m : Nat) :
    (s.updateAxis a r m).axes = s.axes.set a (iterationAxis s.cfg m r (s.readCount a)) := by
  rw [State.updateAxis_axes, commandedDir_eq_iterationDir, commandedDuty_eq_iterationDuty, iterationAxis]

theorem State.updateAxis_history_eq_append_iterationUpdates (a : Nat) (r : Axis) (m : Nat) :
    (s.updateAxis a r m).history = s.history ++ iterationUpdates s.cfg m a [r] [s.readCount a] := by
  rw [State.updateAxis_history, commandedDir_eq_iterationDir, commandedDuty_eq_iterationDuty, iterationUpdates,
    iterationUpdates]

/-- Settles O17: the one record that an update writes is its own axis's, and a port's level depends on its own record. -/
theorem updTouchesItsAxisOnly : Obligations.UpdTouchesItsAxisOnly := by
  intro s t a hrun he
  obtain ⟨⟨⟩, -⟩ | ⟨_, r, m, ⟨⟩, -, -, rfl⟩ | ⟨⟨⟩, -⟩ | ⟨⟨⟩, -⟩ := exec_running_next hrun he
  refine ⟨fun b hb => ?_, by simp, by simp, by simp, by simp, by simp⟩
  have hrec : (s.updateAxis a.toNat r m).advance.consume.axes[b]? = s.axes[b]? := by
    simp [List.getElem?_set_ne hb.symm]
  exact ⟨hrec, State.levels_congr (by simp) (by simp) hrec⟩

/-! ### Two updates of different axes -/

theorem State.advance_opList (s : State) :
    s.advance.opList = s.opList.map fun l => { l with index := l.index + 1 } := by
  cases h : s.opList with
  | none => exact (s.advance_wired h).2
  | some l => exact (s.advance_listed l h).2

/-- `UPD a` that meets a plain draw: the iteration law on its own axis, with the count of that draw (42_control_loop.md
R167). -/
theorem execUpd_of_inputs_cons {a : BitVec 2} {r : Axis} {m : Nat} {d : Inputs} {rest : List Inputs}
    (ha : s.axisAt a.toNat = some r) (hm : s.m = some m) (hf : s.fault = false) (hd : PlainDraw d)
    (hin : s.inputs = d :: rest) :
    ∃ t : State, exec (.upd a) s = .next t ∧ t.inputs = rest ∧ t.cfg = s.cfg ∧ t.m = s.m ∧ t.fault = s.fault ∧
      t.seq = s.advance.seq ∧ t.opList = s.advance.opList ∧
      t.axes = s.axes.set a.toNat (iterationAxis s.cfg m r (countOn s.cfg d a.toNat)) ∧
      t.history = s.history ++ iterationUpdates s.cfg m a.toNat [r] [countOn s.cfg d a.toNat] := by
  have hdraw : s.draw = d := s.draw_cons d rest hin
  have hrun : s.Running := ⟨hdraw ▸ hd.1, hdraw ▸ hd.2, hf⟩
  refine ⟨_, execUpd_running hrun ha hm, by simp [hin], by simp, by simp, by simp, ?_,
    by simp [State.advance_opList], ?_, ?_⟩
  · rw [State.consume_seq, State.advance_seq, State.advance_seq]
    rfl
  · rw [State.consume_axes, State.advance_axes, State.updateAxis_axes_eq_set_iterationAxis, State.readCount, hdraw]
  · rw [State.consume_history, State.advance_history, State.updateAxis_history_eq_append_iterationUpdates,
      State.readCount, hdraw]

/-- Two updates of different axes in a row: each has its effect of one update. -/
theorem execUpd_execUpd {a b : BitVec 2} {ra rb : Axis} {m : Nat} {d e : Inputs} {rest : List Inputs} (hab : a ≠ b)
    (ha : s.axisAt a.toNat = some ra) (hb : s.axisAt b.toNat = some rb) (hm : s.m = some m) (hf : s.fault = false)
    (hd : PlainDraw d) (he : PlainDraw e) (hin : s.inputs = d :: e :: rest) :
    ∃ p q : State, exec (.upd a) s = .next p ∧ exec (.upd b) p = .next q ∧
      q.cfg = s.cfg ∧ q.m = s.m ∧ q.fault = s.fault ∧
      q.seq = (if s.opList = none then nextSeq s.cfg.nAxes (nextSeq s.cfg.nAxes s.seq) else s.seq) ∧
      q.axes = (s.axes.set a.toNat (iterationAxis s.cfg m ra (countOn s.cfg d a.toNat))).set b.toNat
        (iterationAxis s.cfg m rb (countOn s.cfg e b.toNat)) ∧
      q.history = s.history ++ (iterationUpdates s.cfg m a.toNat [ra] [countOn s.cfg d a.toNat] ++
        iterationUpdates s.cfg m b.toNat [rb] [countOn s.cfg e b.toNat]) := by
  obtain ⟨p, hp, hpi, hpc, hpm, hpf, hps, hpl, hpa, hph⟩ := execUpd_of_inputs_cons ha hm hf hd hin
  have hpb : p.axisAt b.toNat = some rb := by
    rwa [State.axisAt, hpc, hpa, List.getElem?_set_ne (BitVec.toNat_ne.mp hab)]
  obtain ⟨q, hq, -, hqc, hqm, hqf, hqs, -, hqa, hqh⟩ :=
    execUpd_of_inputs_cons hpb (hpm.trans hm) (hpf.trans hf) he hpi
  refine ⟨p, q, hp, hq, hqc.trans hpc, hqm.trans hpm, hqf.trans hpf, ?_, ?_, ?_⟩
  · rw [hqs, State.advance_seq, hpl, hps, hpc, State.advance_seq, State.advance_opList]
    cases s.opList <;> simp
  · rw [hqa, hpa, hpc]
  · rw [hqh, hph, hpc, List.append_assoc]

/-- Settles O20: each order writes the same two records and adds the same events, those of one axis and then those of
the other. -/
theorem updatesOfDifferentAxesCommute : Obligations.UpdatesOfDifferentAxesCommute := by
  intro s a b d e rest ha hb hab hm hf hd he
  obtain ⟨ra, ha⟩ := Option.isSome_iff_exists.mp ha
  obtain ⟨rb, hb⟩ := Option.isSome_iff_exists.mp hb
  obtain ⟨m, hm⟩ := Option.isSome_iff_exists.mp hm
  obtain ⟨p, q, hp, hq, hc, hqm, hqf, hqs, hqa, hqh⟩ :=
    execUpd_execUpd (s := { s with inputs := d :: e :: rest }) hab ha hb hm hf hd he rfl
  obtain ⟨p', q', hp', hq', hc', hqm', hqf', hqs', hqa', hqh'⟩ :=
    execUpd_execUpd (s := { s with inputs := e :: d :: rest }) hab.symm hb ha hm hf he hd rfl
  have haxes : q.axes = q'.axes := by
    rw [hqa, hqa', List.set_comm _ _ (BitVec.toNat_ne.mp hab)]
  have hfault : q.fault = q'.fault := hqf.trans hqf'.symm
  refine ⟨p, q, p', q', hp, hq, hp', hq', haxes, hqm.trans hqm'.symm, hqs.trans hqs'.symm, hfault, fun x => ?_, ?_⟩
  · exact State.levels_congr hfault (hc.trans hc'.symm) (by rw [haxes])
  · rw [hqh, hqh']
    exact List.perm_append_comm.append_left _

end Sys2Proof.Machine

/-! The encoding (30_encoding.md): decoder and encoder as inverses on the well-formed operations, the legal words of a
block with three axes, and the assembler's reading of the text it prints. -/

namespace Sys2Proof.Machine

variable {n : Nat} {w : OpWord} {i : Instr} {a : BitVec 2}

/-! ### Decoder and encoder -/

theorem wellFormed_of_decode (h : decode n w = .ok i) : i.wellFormed n = true := by
  obtain rfl := encode_of_decode h
  cases i with
  | smul => rfl
  | upd a => simpa [decode, encode, Instr.wellFormed] using h
  | wait => rfl

theorem decode_eq_ok_iff : decode n w = .ok i ↔ i.wellFormed n = true ∧ encode i = w := by
  constructor
  · exact fun h => ⟨wellFormed_of_decode h, encode_of_decode h⟩
  · rintro ⟨h, rfl⟩
    exact decode_encode h

/-- The decoder's only error is `ILLEGAL_OP` with the word it was given (30_encoding.md R75). -/
theorem decode_eq_illegalOp_iff : decode n w = .error (.illegalOp w) ↔ ¬ ∃ i, decode n w = .ok i := by
  unfold decode
  split_ifs <;> simp

/-- Settles O3: by induction on the list, each word decoding to the operation it encodes. -/
theorem decodingEncodedOperationsGivesThemBack : Obligations.DecodingEncodedOperationsGivesThemBack := by
  intro n is hw
  induction is with
  | nil => rfl
  | cons i is ih =>
    obtain ⟨hi, his⟩ := List.forall_mem_cons.mp hw
    simp [decodeAll, decode_encode hi, ih his]

/-- Settles O4: the words that decode are the words of the well-formed operations. -/
theorem decodedWordReencodes : Obligations.DecodedWordReencodes :=
  fun _ _ _ => decode_eq_ok_iff.mp

/-! ### The legal words of a block with three axes -/

theorem exists_decode_three_iff : (∃ i, decode 3 w = .ok i) ↔
    w = 0x00#8 ∨ w = 0x40#8 ∨ w = 0x41#8 ∨ w = 0x42#8 ∨ w = 0x80#8 := by
  constructor
  · rintro ⟨i, h⟩
    obtain ⟨hi, rfl⟩ := decode_eq_ok_iff.mp h
    cases i with
    | smul => decide
    | upd a => revert a; decide
    | wait => decide
  · rintro (rfl | rfl | rfl | rfl | rfl)
    · exact ⟨.smul, by decide⟩
    · exact ⟨.upd 0, by decide⟩
    · exact ⟨.upd 1, by decide⟩
    · exact ⟨.upd 2, by decide⟩
    · exact ⟨.wait, by decide⟩

/-- Settles O1: the five words are those of the five operations that are well formed with three axes. -/
theorem legalWordsAreExactlyFive : Obligations.LegalWordsAreExactlyFive :=
  ⟨by decide, by decide, by decide, by decide, by decide, fun _ i h => exists_decode_three_iff.mp ⟨i, h⟩⟩

/-- The illegal words of a block with three axes, by their number: `UPD` of a missing axis, a reserved bit set, an axis
field set where the class has no operand, or the reserved class (30_encoding.md R75 (a) to (d)). -/
theorem decode_three_illegalOp_iff : decode 3 w = .error (.illegalOp w) ↔
    (w = 0x43#8 ∨ (w.toNat / 4) % 16 ≠ 0 ∨ (1 ≤ w.toNat ∧ w.toNat ≤ 3) ∨
      (0x81 ≤ w.toNat ∧ w.toNat ≤ 0x83) ∨ 0xC0 ≤ w.toNat) := by
  rw [decode_eq_illegalOp_iff, exists_decode_three_iff]
  bv_omega

/-- The illegal words of a block with three axes are all of the 256 but five (30_encoding.md R74, R75). -/
theorem card_illegal_three : ((Finset.range 256).filter fun k =>
    decode 3 (BitVec.ofNat 8 k) = .error (.illegalOp (BitVec.ofNat 8 k))).card = 251 := by
  have compl : ((Finset.range 256).filter fun k =>
      decode 3 (BitVec.ofNat 8 k) = .error (.illegalOp (BitVec.ofNat 8 k))) =
      Finset.range 256 \ {0x00, 0x40, 0x41, 0x42, 0x80} := by
    ext k
    simp only [decode_eq_illegalOp_iff, exists_decode_three_iff, Finset.mem_filter, Finset.mem_sdiff,
      Finset.mem_range, Finset.mem_insert, Finset.mem_singleton]
    bv_omega
  rw [compl, Finset.card_sdiff_of_subset (by decide), Finset.card_range]
  rfl

/-- `PROG` holds an `UPD` only of an axis that exists (42_control_loop.md R160). -/
theorem wellFormed_prog (n q : Nat) : (prog n q).wellFormed n = true := by
  unfold prog
  split_ifs with h0 hq
  · rfl
  · have hlt : (q - 1) % 2 ^ 2 < n := by omega
    simpa [Instr.wellFormed] using hlt
  · rfl

theorem step_of_fetch_illegal {s : State} (h : s.Running) (hf : s.fetch = some w)
    (hd : decode s.cfg.nAxes w = .error (.illegalOp w)) : step s = .refused (.illegalOp w) := by
  simp [step, cycle, hf, hd, s.attempt_running h]

/-- Settles O2: by the five legal words, the words of the program being those of well-formed operations. -/
theorem everyOtherWordIsIllegal : Obligations.EveryOtherWordIsIllegal :=
  ⟨fun _ => decode_three_illegalOp_iff, card_illegal_three, fun n q => decode_encode (wellFormed_prog n q),
    fun _ _ => step_of_fetch_illegal⟩

/-! ### The assembler -/

theorem stripComment_append {line : List Char} (h : ';' ∉ line) (comment : List Char) :
    stripComment (line ++ ';' :: comment) = stripComment line := by
  induction line with
  | nil => rfl
  | cons c rest ih =>
    obtain ⟨hc, hrest⟩ : ';' ≠ c ∧ ';' ∉ rest := by simpa using h
    simp [stripComment, hc.symm, ih hrest]

theorem semicolon_not_mem_printInstr (i : Instr) : ';' ∉ printInstr i := by
  cases i with
  | smul => decide
  | upd a => revert a; decide
  | wait => decide

/-- A comment after an operation's text changes nothing (30_encoding.md R81). -/
theorem parseLine_printInstr_comment (n : Nat) (i : Instr) (comment : List Char) :
    parseLine n (printInstr i ++ ';' :: comment) = parseLine n (printInstr i) := by
  simp only [parseLine, stripComment_append (semicolon_not_mem_printInstr i)]

theorem axisName_injective : Function.Injective axisName := by
  unfold Function.Injective; decide

theorem readAxis_eq_some_iff {word : List Char} :
    readAxis n word = some a ↔ word = axisName a ∧ a.toNat < n := by
  have sound {b : BitVec 2} (h : readAxis n word = some b) : word = axisName b ∧ b.toNat < n := by
    simpa using List.find?_some h
  refine ⟨sound, fun ⟨hword, ha⟩ => ?_⟩
  cases hr : readAxis n word with
  | none =>
    have hmem : ∀ b : BitVec 2, b ∈ ([0, 1, 2, 3] : List (BitVec 2)) := by decide
    simpa [hword, ha] using List.find?_eq_none.mp hr a (hmem a)
  | some b => rw [axisName_injective (hword.symm.trans (sound hr).1)]

theorem readAxis_axisName (n : Nat) (a : BitVec 2) :
    readAxis n (axisName a) = if a.toNat < n then some a else none := by
  split_ifs with ha
  · exact readAxis_eq_some_iff.mpr ⟨rfl, ha⟩
  · refine Option.eq_none_iff_forall_ne_some.mpr fun b hb => ha ?_
    obtain ⟨hab, hlt⟩ := readAxis_eq_some_iff.mp hb
    exact axisName_injective hab ▸ hlt

theorem splitWords_printInstr_upd (a : BitVec 2) :
    splitWords [] (stripComment (printInstr (.upd a))) = [nameUpd, axisName a] := by
  revert a; decide

theorem parseLine_printInstr_upd (n : Nat) (a : BitVec 2) :
    parseLine n (printInstr (.upd a)) = if a.toNat < n then some [.upd a] else none := by
  simp [parseLine, splitWords_printInstr_upd, readAxis_axisName, apply_ite]

theorem parseLine_printInstr (h : i.wellFormed n = true) : parseLine n (printInstr i) = some [i] := by
  cases i with
  | smul => rfl
  | upd a => rw [parseLine_printInstr_upd, if_pos (of_decide_eq_true h)]
  | wait => rfl

/-- Settles O5: a text is read word by word, its comment stripped before; `UPD`'s axis is read only if it exists. -/
theorem assemblerReadsBackEveryOperation : Obligations.AssemblerReadsBackEveryOperation := by
  refine ⟨fun n i => parseLine_printInstr, fun n i comment h => ?_, fun n a ha => ?_⟩
  · rw [parseLine_printInstr_comment, parseLine_printInstr h]
  · rw [parseLine_printInstr_upd, if_neg ha.not_gt]

end Sys2Proof.Machine

/-! The Axis Controller (40_axis_controller.md): what the four pure functions compose to, and one update as the iteration
law on its own axis, from which its result, its repetition and its dependence on speed, sign and multiplier follow. -/

namespace Sys2Proof.Machine

variable {s t : State} {a : BitVec 2} {r : Axis} {m : Nat}

/-! ### The pure functions -/

theorem dirMag_eq (v : Int) : dirMag v = (if 0 < v then .forward else .reverse, v.natAbs) :=
  Prod.ext (apply_ite Prod.fst _ _ _) (dirMag_magnitude v)

theorem sat_scale_dirMag (p : Params) (v : Int) (m : Nat) :
    sat p (scale (dirMag v).2 m) = min (v.natAbs * m) (dutyMax p) := by
  rw [dirMag_magnitude, scale, sat]

theorem dutyMax_of_resBits {p : Params} (hp : p.resBits = 10) : dutyMax p = 1023 := by
  simp [dutyMax, hp]

/-- Settles O7: DIRMAG is the sign test beside the absolute value. -/
theorem directionAndMagnitudeOfVelocity : Obligations.DirectionAndMagnitudeOfVelocity := by
  intro v hlo hhi
  refine ⟨fun hv => by rw [dirMag_eq, if_pos hv], fun hv => by rw [dirMag_eq, if_neg hv.not_gt], ?_⟩
  rw [dirMag_magnitude]
  omega

/-- Settles O10: the largest magnitude times the largest tier is 65535000, below 2^26. -/
theorem productIsExactAndFits : Obligations.ProductIsExactAndFits := by
  intro mag m hmag hm
  have hle : scale mag m ≤ 65535 * 1000 := Nat.mul_le_mul hmag (by omega)
  exact ⟨rfl, hle, hle.trans_lt (by decide)⟩

/-- Settles O11: the magnitude is the absolute value, and SAT is the minimum with `DUTY_MAX`. -/
theorem dutyIsClampedScaledSpeed : Obligations.DutyIsClampedScaledSpeed := fun p v m =>
  ⟨sat_scale_dirMag p v m, fun hp => by rw [sat_scale_dirMag, dutyMax_of_resBits hp], dirMag_forward_iff v⟩

theorem commandedDuty_of_paramsLegal {p : Params} (hp : ParamsLegal p) (c prev : Int) (m : Nat) :
    commandedDuty p c prev m = min ((delta c prev).natAbs * m) 1023 := by
  rw [commandedDuty, sat_scale_dirMag, dutyMax_of_paramsLegal hp]

/-- Settles O12: the product is a multiple of 10 and 1023 is not, so the product reaches the clamp only by passing it. -/
theorem saturationThresholds : Obligations.SaturationThresholds := by
  intro p c prev m hp hm
  rw [commandedDuty_of_paramsLegal hp]
  have hten : 10 ∣ (delta c prev).natAbs * m := Dvd.dvd.mul_left (by omega) _
  refine ⟨by omega, by omega, ?_, ?_, ?_⟩ <;> rintro rfl <;> omega

/-! ### One update -/

theorem exec_failure (hr : s.draw.rst = false) (hf : s.fault = false) (hh : s.draw.halFail = true) (i : Instr) :
    exec i s = .next s.takeHalFailure := by
  obtain ⟨body, hb⟩ := exists_exec_eq_attempt s i
  rw [hb, State.attempt_failure hr hf hh]

theorem execUpd_eq_next_iff (h : s.Running) : exec (.upd a) s = .next t ↔
    ∃ r m, s.axisAt a.toNat = some r ∧ s.m = some m ∧ t = (s.updateAxis a.toNat r m).advance.consume := by
  constructor
  · intro he
    obtain ⟨⟨⟩, -⟩ | ⟨_, r, m, ⟨⟩, hax, hm, ht⟩ | ⟨⟨⟩, -⟩ | ⟨⟨⟩, -⟩ := exec_running_next h he
    exact ⟨r, m, hax, hm, ht⟩
  · rintro ⟨r, m, hax, hm, rfl⟩
    exact execUpd_running h hax hm

/-- The record of the updated axis is the iteration law's (42_control_loop.md R167). -/
theorem State.updateAxis_getElem?_self {k : Nat} (hax : s.axes[k]? = some r) (m : Nat) :
    (s.updateAxis k r m).axes[k]? = some (iterationAxis s.cfg m r (s.readCount k)) := by
  obtain ⟨hk, -⟩ := List.getElem?_eq_some_iff.mp hax
  rw [State.updateAxis_axes_eq_set_iterationAxis, List.getElem?_set_self hk]

/-- The record that `UPD a` leaves when it completes, from the record and the multiplier it found (40_axis_controller.md
R105). -/
theorem getElem?_of_execUpd (h : s.Running) (he : exec (.upd a) s = .next t) (hax : s.axes[a.toNat]? = some r)
    (hm : s.m = some m) : t.axes[a.toNat]? = some (iterationAxis s.cfg m r (s.readCount a.toNat)) := by
  obtain ⟨r', m', hax', hm', rfl⟩ := (execUpd_eq_next_iff h).mp he
  obtain ⟨-, hax'⟩ := State.axisAt_eq_some.mp hax'
  obtain rfl : r = r' := by simpa [hax] using hax'
  obtain rfl : m = m' := by simpa [hm] using hm'
  simpa using State.updateAxis_getElem?_self hax m

theorem readCount_signedRange (hp : ParamsLegal s.cfg) (k : Nat) : SignedRange 16 (s.readCount k) := by
  rw [State.readCount, countOn_of_paramsLegal hp]
  exact signedRange_signedWord 16 _

theorem iterationDuty_of_paramsLegal {p : Params} (hp : ParamsLegal p) (m : Nat) (r : Axis) (c : Int) :
    iterationDuty p m r c = min ((c - r.prev).natAbs * m) 1023 := by
  rw [← commandedDuty_eq_iterationDuty, commandedDuty_of_paramsLegal hp, delta]

/-- Settles O16: the iteration law on the axis's own record when the update completes, and what stands in its way
otherwise. -/
theorem updCommitsTheScaledVelocity : Obligations.UpdCommitsTheScaledVelocity := by
  refine ⟨fun s a r m h hax hm => ?_, fun s a h ha => execUpd_missing_axis h (State.axisAt_of_ge ha),
    fun s h hn => execUpd_missing_axis h (State.axisAt_of_ge hn.le),
    fun s a r h hax hm => execUpd_no_multiplier h hax hm,
    fun s a r m _ _ hr hf hh => ⟨_, exec_failure hr hf hh _, rfl, rfl, rfl, rfl, rfl⟩⟩
  have hrec := State.updateAxis_getElem?_self (State.axisAt_eq_some.mp hax).2 m
  refine ⟨_, s.readCount a.toNat, _, iterationDuty s.cfg m r (s.readCount a.toNat), execUpd_running h hax hm, rfl, rfl,
    rfl, fun hp => ⟨iterationDuty_of_paramsLegal hp m r _, readCount_signedRange hp _⟩, ?_, ?_,
    State.advancedTo_of (r := s.updateAxis a.toNat r m) rfl rfl rfl rfl rfl, by simp, by simp⟩
  · rw [State.consume_axes, State.advance_axes, hrec]
    rfl
  · rw [State.consume_history, State.advance_history, State.updateAxis_history_eq_append_iterationUpdates]
    rfl

/-! ### Repetition and monotonicity -/

theorem iterationAxis_of_eq_prev (p : Params) (m : Nat) {c : Int} (hc : r.prev = c) :
    iterationAxis p m r c = { prev := c, dir := some .reverse, duty := some 0 } := by
  simp [iterationAxis, iterationDir, iterationDuty, hc]

/-- Settles O18: the first update leaves the count it read as the previous count, so the second has velocity zero. -/
theorem repeatedCountStopsTheAxis : Obligations.RepeatedCountStopsTheAxis := by
  intro s t r a hs he hr hm hcfg haxes hcount
  obtain ⟨x, k, hax, hk, rfl⟩ := (execUpd_eq_next_iff hs).mp he
  obtain ⟨hlt, hax⟩ := State.axisAt_eq_some.mp hax
  obtain ⟨m, hm⟩ := Option.isSome_iff_exists.mp hm
  have hrec := haxes.trans (getElem?_of_execUpd hs he hax hk)
  have hlt' : a.toNat < r.cfg.nAxes := by simpa [hcfg] using hlt
  have hexec := execUpd_running hr (State.axisAt_eq_some.mpr ⟨hlt', hrec⟩) hm
  refine ⟨_, hexec, ?_⟩
  rw [getElem?_of_execUpd hr hexec hrec hm, hcount, iterationAxis_of_eq_prev]
  rfl

theorem iterationDuty_mono (p : Params) {m m' : Nat} {r r' : Axis} {c c' : Int}
    (hv : (c - r.prev).natAbs ≤ (c' - r'.prev).natAbs) (hm : m ≤ m') :
    iterationDuty p m r c ≤ iterationDuty p m' r' c' :=
  min_le_min_right _ (Nat.mul_le_mul hv hm)

theorem iterationDir_congr {r r' : Axis} {c c' : Int} (hv : c - r.prev = c' - r'.prev) :
    iterationDir r c = iterationDir r' c' := by
  rw [iterationDir, hv, iterationDir]

theorem iterationDir_ne_of_neg {r r' : Axis} {c c' : Int} (hv : c' - r'.prev = -(c - r.prev)) (h0 : c - r.prev ≠ 0) :
    iterationDir r c ≠ iterationDir r' c' := by
  unfold iterationDir
  rcases h0.lt_or_gt with h | h
  · rw [if_neg (by omega), if_pos (by omega)]
    exact nofun
  · rw [if_pos (by omega), if_neg (by omega)]
    exact nofun

/-- Settles O19: the two records are the iteration law's, whose duty is monotone and whose direction is the sign. -/
theorem dutyIsMonotoneAndSignFree : Obligations.DutyIsMonotoneAndSignFree := by
  intro s s' t t' a m m' r r' x x' u u' v v' hs hs' hcfg hm hm' he he' hr hr' hx hx' hu hu' hv hv'
  obtain rfl := Option.some.inj (hx.symm.trans (getElem?_of_execUpd hs he hr hm))
  obtain rfl := Option.some.inj (hx'.symm.trans (getElem?_of_execUpd hs' he' hr' hm'))
  obtain rfl := Option.some.inj hu
  obtain rfl := Option.some.inj hu'
  subst hv hv'
  rw [hcfg]
  refine ⟨fun habs hmul => ?_, iterationDuty_mono s.cfg, fun heq => ?_, fun hneg h0 => ?_⟩
  · exact (iterationDuty_mono s.cfg habs.le hmul.le).antisymm (iterationDuty_mono s.cfg habs.ge hmul.ge)
  · exact congrArg some (iterationDir_congr heq)
  · exact fun hd => iterationDir_ne_of_neg hneg h0 (Option.some.inj hd)

end Sys2Proof.Machine

/-! The Scale Selector (41_scale_selector.md): the first match with the document's multipliers, and what `SMUL` latches,
records and leaves unchanged. -/

namespace Sys2Proof.Machine

theorem select_of_paramsLegal {p : Params} (hp : ParamsLegal p) (i1 i2 i3 : Bool) :
    select p i1 i2 i3 = if i1 then 10 else if i2 then 100 else if i3 then 1000 else 10 := by
  obtain ⟨-, -, -, -, h1, h2, h3, hd, -⟩ := hp
  rw [select, h1, h2, h3, hd]

/-- Settles O13: SELECT is the first match by definition, and a legal configuration fixes its four values. -/
theorem selectIsFirstMatch : Obligations.SelectIsFirstMatch := fun _ i1 i2 i3 =>
  ⟨rfl, fun hp => select_of_paramsLegal hp i1 i2 i3⟩

/-- Settles O14: the equation of `SMUL` with nothing in its way gives the state field by field, and the outputs follow
from the fields they depend on; a failure takes the fault as for every operation. -/
theorem smulLatchesTheSelectedMultiplier : Obligations.SmulLatchesTheSelectedMultiplier := by
  refine ⟨fun s hrun => ?_, fun s hr hf hh => ⟨_, exec_failure hr hf hh _, rfl, rfl, rfl, rfl, rfl⟩⟩
  refine ⟨_, select s.cfg (s.draw.sel.getLsbD 0) (s.draw.sel.getLsbD 1) (s.draw.sel.getLsbD 2), execSmul_running hrun,
    by simp, rfl, fun hp => select_of_paramsLegal hp _ _ _, by simp,
    State.advancedTo_of (r := (s.record _).latch _) rfl rfl rfl rfl rfl, ⟨by simp, by simp⟩, by simp, by simp, by simp,
    by simp, fun a => ?_⟩
  exact State.levels_congr (by simp) (by simp) (by simp)

end Sys2Proof.Machine

/-! The Control Loop (42_control_loop.md): the step of the wired program and of an operation list, the two ways a `WAIT`
can go, and what `SMUL` and `UPD` look at of a draw. -/

namespace Sys2Proof.Machine

variable {s t : State}

/-! ### The program and the fetch -/

/-- Settles O6: the program by its positions, and the line `ITER` as it is read. -/
theorem fixedProgramIsOneIteration : Obligations.FixedProgramIsOneIteration := by
  refine ⟨fun n => ⟨prog_zero n, fun a ha => ?_, prog_last n⟩, by decide, fun n => ⟨rfl, rfl⟩⟩
  rw [Nat.add_comm, prog_axis ha]

theorem State.fetch_wired (hl : s.opList = none) : s.fetch = some (encode (prog s.cfg.nAxes s.seq)) := by
  simp [State.fetch, hl]

theorem State.fetch_listed {l : OpList} (hl : s.opList = some l) : s.fetch = l.words[l.index]? := by
  simp [State.fetch, hl]

theorem step_wired (hl : s.opList = none) : step s = exec (prog s.cfg.nAxes s.seq) s :=
  step_of_fetch (State.fetch_wired hl) (decode_encode (wellFormed_prog _ _))

/-- Settles O25: the fetched word is that of a well-formed operation, which decodes to the operation. -/
theorem stepRunsTheFetchedOperation : Obligations.StepRunsTheFetchedOperation :=
  ⟨fun _ => step_wired, fun _ _ _ hl hi hw => step_of_fetch ((State.fetch_listed hl).trans hw) (decode_encode hi)⟩

theorem step_of_fetch_none (hrun : s.Running) (hf : s.fetch = none) : step s = .refused .listEnded := by
  simp [step, cycle, hf, s.attempt_running hrun]

/-- Settles O26: past its last word a list holds nothing to fetch. -/
theorem endedListIsRefused : Obligations.EndedListIsRefused := fun _ _ hrun hl hlen =>
  step_of_fetch_none hrun ((State.fetch_listed hl).trans (List.getElem?_eq_none hlen))

/-! ### `WAIT` -/

/-- Settles O21: the equation of a `WAIT` that wakes, field by field. -/
theorem waitCompletesWhenThePeriodIsOver : Obligations.WaitCompletesWhenThePeriodIsOver := by
  intro s hrun hp
  refine ⟨_, execWait_wakes hrun hp,
    State.advancedTo_of (r := s.requestSleep.setSleeping false) (by simp) (by simp) (by simp) rfl rfl,
    ⟨by simp, by simp⟩, by simp, by simp [State.requestSleep_history], by simp, by simp, by simp, by simp, fun a => ?_⟩
  exact State.levels_congr (by simp) (by simp) (by simp)

/-- Settles O22: the equation of a `WAIT` that holds, field by field. -/
theorem waitHoldsWithoutThePeriod : Obligations.WaitHoldsWithoutThePeriod := by
  intro s hrun hp
  refine ⟨_, execWait_holds hrun hp, ⟨by simp, by simp⟩, ⟨by simp, by simp⟩, by simp,
    by simp [State.requestSleep_history], by simp, by simp, by simp, by simp, fun a => ?_⟩
  exact State.levels_congr (by simp) (by simp) (by simp)

theorem step_wired_wait (hl : s.opList = none) (hq : s.seq = s.cfg.nAxes + 1) : step s = exec .wait s := by
  rw [step_wired hl, hq, prog_last]

theorem State.running_of_inputs_cons {d : Inputs} {rest : List Inputs} (hin : s.inputs = d :: rest) (hd : PlainDraw d)
    (hf : s.fault = false) : s.Running := by
  have hdraw : s.draw = d := s.draw_cons d rest hin
  exact ⟨hdraw ▸ hd.1, hdraw ▸ hd.2, hf⟩

theorem State.requestSleep_of_sleeping (h : s.sleeping = true) : s.requestSleep = s := if_pos h

/-- A step of the wired program's `WAIT` without the period. -/
theorem step_hold {d : Inputs} {rest : List Inputs} (hl : s.opList = none) (hq : s.seq = s.cfg.nAxes + 1)
    (hf : s.fault = false) (hin : s.inputs = d :: rest) (hd : PlainDraw d ∧ d.periodElapsed = false) :
    step s = .next s.requestSleep.consume := by
  rw [step_wired_wait hl hq, execWait_holds (State.running_of_inputs_cons hin hd.1 hf) (s.draw_cons d rest hin ▸ hd.2)]

/-- Once the sleep is requested, the holding steps only take their draws (42_control_loop.md R162). -/
theorem runSteps_sleeping {ds rest : List Inputs} (hl : s.opList = none) (hq : s.seq = s.cfg.nAxes + 1)
    (hf : s.fault = false) (hsl : s.sleeping = true) (hin : s.inputs = ds ++ rest)
    (hds : ∀ d ∈ ds, PlainDraw d ∧ d.periodElapsed = false) :
    runSteps ds.length s = .next { s with inputs := rest, drawn := s.drawn + ds.length } := by
  induction ds generalizing s with
  | nil =>
    subst hin
    rfl
  | cons d ds ih =>
    obtain ⟨hd, hds⟩ := List.forall_mem_cons.mp hds
    have hstep := step_hold hl hq hf hin hd
    rw [State.requestSleep_of_sleeping hsl] at hstep
    rw [List.length_cons, runSteps_next hstep, ih (s := s.consume) hl hq hf hsl (by simp [hin]) hds]
    simp [State.consume, Nat.add_assoc, Nat.add_comm 1]

/-- Settles O23: the first holding step requests the sleep, and the others only take their draws. -/
theorem waitHangsWhenTheClockFails : Obligations.WaitHangsWhenTheClockFails := by
  intro s d ds rest hl hq hf hin hds
  obtain ⟨hd, hds⟩ := List.forall_mem_cons.mp hds
  have hrest := runSteps_sleeping (s := s.requestSleep.consume) (rest := rest) (by simpa using hl) (by simpa using hq)
    (by simpa using hf) (by simp) (by simp [hin]) hds
  refine ⟨_, (runSteps_next (step_hold hl hq hf hin hd) ds.length).trans hrest, ?_⟩
  simp [hl, hq, hf, State.requestSleep_history]

/-! ### What `SMUL` and `UPD` look at -/

/-- The block with `d` as its next draw. -/
def State.meeting (s : State) (d : Inputs) (rest : List Inputs) : State := { s with inputs := d :: rest }

section

variable {d e : Inputs} {rest : List Inputs}

@[simp] theorem State.meeting_m : (s.meeting d rest).m = s.m := rfl
@[simp] theorem State.meeting_axisAt (a : Nat) : (s.meeting d rest).axisAt a = s.axisAt a := rfl

/-- A draw is gone after its step (10_state.md R36). -/
theorem State.meeting_advance_consume (s : State) (d e : Inputs) (rest : List Inputs) :
    (s.meeting d rest).advance.consume = (s.meeting e rest).advance.consume := by
  cases h : s.opList <;> simp [State.advance, State.consume, State.meeting, h]

/-- The frame of a step looks at `rst` and `hal_fail` alone. -/
theorem State.meeting_attempt (hr : d.rst = e.rst) (hh : d.halFail = e.halFail)
    (body : Host.Outcome State Fault Refusal) : (s.meeting d rest).attempt body = (s.meeting e rest).attempt body := by
  simp only [State.attempt, State.meeting, State.draw, hr, hh]
  rfl

theorem execSmul_meeting (hr : d.rst = e.rst) (hh : d.halFail = e.halFail) (hsel : d.sel = e.sel) :
    exec .smul (s.meeting d rest) = exec .smul (s.meeting e rest) := by
  have hread : (s.meeting d rest).readSel = (s.meeting e rest).readSel := by
    simp only [State.readSel, State.meeting, State.draw, hsel]
  simp only [exec, execSmul, hread, State.meeting_attempt hr hh]
  exact congrArg _ (congrArg _ (State.meeting_advance_consume ((s.record _).latch _) d e rest))

theorem execUpd_meeting {a : BitVec 2} (hr : d.rst = e.rst) (hh : d.halFail = e.halFail)
    (hcnt : portCount d a.toNat = portCount e a.toNat) :
    exec (.upd a) (s.meeting d rest) = exec (.upd a) (s.meeting e rest) := by
  have hread : (s.meeting d rest).readCount a.toNat = (s.meeting e rest).readCount a.toNat :=
    congrArg (signedWord s.cfg.countW) hcnt
  have hupd (r : Axis) (m : Nat) : (s.meeting d rest).updateAxis a.toNat r m =
      ((s.meeting e rest).updateAxis a.toNat r m).meeting d rest := by
    rw [State.updateAxis, hread]
    rfl
  simp only [exec, execUpd, State.meeting_attempt hr hh, State.meeting_axisAt, State.meeting_m, hupd,
    State.meeting_advance_consume _ d e]
  rfl

end

/-- Settles O24: neither operation looks at `period_elapsed`, and the draw is gone after the step. -/
theorem strayPeriodElapsedIsIgnored : Obligations.StrayPeriodElapsedIsIgnored := by
  intro i s d rest b hi
  cases i with
  | smul => exact execSmul_meeting rfl rfl rfl
  | upd a => exact execUpd_meeting rfl rfl rfl
  | wait => exact absurd rfl hi

end Sys2Proof.Machine

/-! A model-only list of operation words that is what `PROG` issues (42_control_loop.md R170): the run of the list is
the block's own run but for where the place in the program is kept. -/

namespace Sys2Proof.Machine

variable {s t b : State} {q : Nat} {l : OpList}

/-- The block `b` running the list `l`, with its sequencer standing at `q`. -/
def State.onList (b : State) (q : Nat) (l : OpList) : State := { b with seq := q, opList := some l }

/-- The block `b` runs its wired program, and the remaining words of `l` are the program's from `b.seq` on. -/
def State.IssuesList (b : State) (l : OpList) : Prop :=
  b.opList = none ∧ b.seq < b.cfg.nAxes + 2 ∧
  ∀ k w, l.words[l.index + k]? = some w → w = encode (prog b.cfg.nAxes ((b.seq + k) % (b.cfg.nAxes + 2)))

theorem State.listFollows_iff : s.ListFollows b ↔ ∃ q l, s = b.onList q l ∧ b.IssuesList l := by
  constructor
  · rintro ⟨hobs, hc, hsl, hin, hdr, hb, hq, l, hl, hw⟩
    obtain ⟨haxes, hm, hf, hh⟩ := Observation.mk.inj hobs
    refine ⟨s.seq, l, ?_, hb, hq, hw⟩
    cases s
    cases hc; cases hsl; cases hin; cases hdr; cases hl; cases haxes; cases hm; cases hf; cases hh
    rfl
  · rintro ⟨q, l, rfl, hb, hq, hw⟩
    exact ⟨rfl, rfl, rfl, rfl, rfl, hb, hq, l, rfl, hw⟩

theorem State.IssuesList.onList_listFollows (h : b.IssuesList l) (q : Nat) : (b.onList q l).ListFollows b :=
  State.listFollows_iff.mpr ⟨q, l, rfl, h⟩

theorem State.IssuesList.of_eq (h : b.IssuesList l) (hc : t.cfg = b.cfg) (hq : t.seq = b.seq)
    (hl : t.opList = b.opList) : t.IssuesList l := by
  rwa [State.IssuesList, hc, hq, hl]

/-- The list's next word is that of the program's operation. -/
theorem State.IssuesList.prog_eq (h : b.IssuesList l) {i : Instr} (hw : (b.onList q l).fetch = some (encode i)) :
    prog b.cfg.nAxes b.seq = i := by
  obtain ⟨-, hq, hwords⟩ := h
  have hi := hwords 0 (encode i) hw
  rw [Nat.add_zero, Nat.mod_eq_of_lt hq] at hi
  exact encode_injective hi.symm

theorem State.IssuesList.step_eq (h : b.IssuesList l) {i : Instr} (hw : (b.onList q l).fetch = some (encode i)) :
    step b = exec i b := by
  rw [step_wired h.1, h.prog_eq hw]

theorem State.onList_requestSleep (b : State) (q : Nat) (l : OpList) :
    (b.onList q l).requestSleep = b.requestSleep.onList q l := by
  cases h : b.sleeping <;> simp [State.requestSleep, State.onList, State.record, State.setSleeping, h]

/-- The list index moves as the sequencer does (42_control_loop.md R161, R170). -/
theorem State.IssuesList.advance (h : b.IssuesList l) :
    (b.onList q l).advance = b.advance.onList q { l with index := l.index + 1 } ∧
    b.advance.IssuesList { l with index := l.index + 1 } := by
  obtain ⟨hl, -, hwords⟩ := h
  obtain ⟨hseq, hlist⟩ := b.advance_wired hl
  refine ⟨by simp [State.advance, State.onList, hl], hlist, ?_, fun k w hk => ?_⟩
  · rw [hseq, State.advance_cfg]
    exact Nat.mod_lt _ (Nat.succ_pos _)
  · rw [hseq, State.advance_cfg, nextSeq, Nat.mod_add_mod, Nat.add_assoc]
    exact hwords (1 + k) w (by rwa [← Nat.add_assoc])

/-- An operation that completes in `t` completes in the list's block as well, and the list goes on following. -/
theorem State.IssuesList.advance_listFollows (h : b.IssuesList l) (hc : t.cfg = b.cfg) (hq : t.seq = b.seq)
    (hl : t.opList = b.opList) : (t.onList q l).advance.consume.ListFollows t.advance.consume := by
  obtain ⟨hadv, hlist⟩ := (h.of_eq hc hq hl).advance (q := q)
  rw [hadv]
  exact (hlist.of_eq (t := t.advance.consume) rfl rfl rfl).onList_listFollows q

theorem step_failure (hr : s.draw.rst = false) (hf : s.fault = false) (hh : s.draw.halFail = true) :
    step s = .next s.takeHalFailure := by
  obtain ⟨body, hb⟩ := exists_step_eq_attempt s
  rw [hb, s.attempt_failure hr hf hh]

/-- The kinds of step of a block on a list, each matched by the same kind of the wired block. -/
theorem StepEffect.exists_step_wired (hs : StepEffect (b.onList q l) t) (h : b.IssuesList l) (hr : b.draw.rst = false) :
    ∃ b', step b = .next b' ∧ t.ListFollows b' := by
  cases hs with
  | reset hr' => exact absurd hr' (ne_true_of_eq_false hr)
  | stuck _ hf => exact ⟨_, step_stuck hr hf, (h.of_eq (t := b.consume) rfl rfl rfl).onList_listFollows q⟩
  | failure _ hf hh =>
    exact ⟨_, step_failure hr hf hh, (h.of_eq (t := b.takeHalFailure) rfl rfl rfl).onList_listFollows q⟩
  | smul hrun hw =>
    exact ⟨_, (h.step_eq hw).trans (execSmul_running hrun),
      h.advance_listFollows (t := (b.record _).latch _) rfl rfl rfl⟩
  | upd hrun a hw ha hm =>
    exact ⟨_, (h.step_eq hw).trans (execUpd_running (s := b) hrun ha hm),
      h.advance_listFollows (t := b.updateAxis a.toNat _ _) rfl rfl rfl⟩
  | wake hrun hw hp =>
    rw [State.onList_requestSleep]
    exact ⟨_, (h.step_eq hw).trans (execWait_wakes hrun hp),
      h.advance_listFollows (t := b.requestSleep.setSleeping false) (by simp) (by simp) (by simp)⟩
  | hold hrun hw hp =>
    rw [State.onList_requestSleep]
    exact ⟨_, (h.step_eq hw).trans (execWait_holds hrun hp),
      (h.of_eq (t := b.requestSleep.consume) (by simp) (by simp) (by simp)).onList_listFollows q⟩

/-- Settles O27: a list that follows is the block itself with the place in the program kept in the list, and each kind
of step keeps that. -/
theorem operationListFollowsTheBlock : Obligations.OperationListFollowsTheBlock := by
  intro s b s' h hr hstep
  obtain ⟨q, l, rfl, hlist⟩ := State.listFollows_iff.mp h
  exact (stepEffect_of_step hstep).exists_step_wired hlist hr

end Sys2Proof.Machine

/-! The iteration law (42_control_loop.md R167): a block in the middle of an iteration is observed as the law applied to
what has been sampled so far, and every operation keeps that. -/

namespace Sys2Proof.Machine

variable {s t u : State} {o : Observation} {x : Samples}

/-! ### The law on part of the samples -/

/-- The axis records after the updates with the counts `cs`, the later ones as they were. -/
def updatedAxes (p : Params) (m : Nat) (rs : List Axis) (cs : List Int) : List Axis :=
  List.zipWith (iterationAxis p m) rs cs ++ rs.drop cs.length

/-- The iteration law with the counts sampled so far (42_control_loop.md R167); `slept` says whether `WAIT` has
requested its sleep. -/
def partialResult (p : Params) (o : Observation) (x : Samples) (slept : Bool) : Observation :=
  { axes := updatedAxes p (x.mult p) o.axes x.counts
    m := some (x.mult p)
    fault := false
    history := o.history ++ .selRead x.i1 x.i2 x.i3 ::
      (iterationUpdates p (x.mult p) 0 o.axes x.counts ++ if slept then [.sleep p.periodMs] else []) }

/-- The samples with one more count. -/
@[simps] def Samples.addCount (x : Samples) (c : Int) : Samples := { x with counts := x.counts ++ [c] }

@[simp] theorem Samples.addCount_mult (p : Params) (x : Samples) (c : Int) : (x.addCount c).mult p = x.mult p := rfl

/-- What `SMUL` samples from a draw, before any count. -/
def Samples.ofSelect (d : Inputs) : Samples :=
  { i1 := d.sel.getLsbD 0, i2 := d.sel.getLsbD 1, i3 := d.sel.getLsbD 2, counts := [] }

theorem updatedAxes_of_length_eq {p : Params} {m : Nat} {rs : List Axis} {cs : List Int} (h : cs.length = rs.length) :
    updatedAxes p m rs cs = List.zipWith (iterationAxis p m) rs cs := by
  simp [updatedAxes, h]

theorem updatedAxes_length (p : Params) (m : Nat) {rs : List Axis} {cs : List Int} (h : cs.length ≤ rs.length) :
    (updatedAxes p m rs cs).length = rs.length := by
  simp [updatedAxes, h]

theorem updatedAxes_getElem? (p : Params) (m : Nat) (rs : List Axis) (cs : List Int) :
    (updatedAxes p m rs cs)[cs.length]? = rs[cs.length]? := by
  induction cs generalizing rs with
  | nil => simp [updatedAxes]
  | cons c cs ih =>
    cases rs with
    | nil => simp [updatedAxes]
    | cons r rs => simpa [updatedAxes] using ih rs

theorem updatedAxes_set {p : Params} {m : Nat} {rs : List Axis} {cs : List Int} {r : Axis} (c : Int)
    (h : rs[cs.length]? = some r) :
    (updatedAxes p m rs cs).set cs.length (iterationAxis p m r c) = updatedAxes p m rs (cs ++ [c]) := by
  induction cs generalizing rs with
  | nil =>
    cases rs with
    | nil => cases h
    | cons r' rs =>
      cases h
      simp [updatedAxes]
  | cons c' cs ih =>
    cases rs with
    | nil => cases h
    | cons r' rs => simpa [updatedAxes] using ih (rs := rs) h

theorem iterationUpdates_nil (p : Params) (m a : Nat) (rs : List Axis) : iterationUpdates p m a rs [] = [] := by
  cases rs <;> rfl

theorem iterationUpdates_append {p : Params} {m a : Nat} {rs : List Axis} {cs : List Int} {r : Axis} (c : Int)
    (h : rs[cs.length]? = some r) :
    iterationUpdates p m a rs (cs ++ [c]) =
      iterationUpdates p m a rs cs ++ iterationUpdates p m (a + cs.length) [r] [c] := by
  induction cs generalizing a rs with
  | nil =>
    cases rs with
    | nil => cases h
    | cons r' rs =>
      cases h
      cases rs <;> simp [iterationUpdates]
  | cons c' cs ih =>
    cases rs with
    | nil => cases h
    | cons r' rs =>
      have htail := ih (a := a + 1) (rs := rs) h
      simpa [iterationUpdates, Nat.add_right_comm a 1, Nat.add_assoc] using htail

/-- With a count for each axis and the sleep requested the law is applied in full. -/
theorem partialResult_eq_iterationResult {p : Params} (h : x.counts.length = o.axes.length) :
    partialResult p o x true = iterationResult p o x := by
  rw [partialResult, updatedAxes_of_length_eq h]
  rfl

/-! ### A block in the middle of an iteration -/

/-- The block is in the iteration that began with the observation `o`, past `SMUL` and the updates whose samples are
`x`. -/
structure State.InIteration (u : State) (o : Observation) (x : Samples) : Prop where
  observed : u.observe = partialResult u.cfg o x u.sleeping
  seq : u.seq = x.counts.length + 1
  counts_le : x.counts.length ≤ u.cfg.nAxes
  awake : x.counts.length < u.cfg.nAxes → u.sleeping = false
  wired : u.opList = none
  axes_length : o.axes.length = u.cfg.nAxes
  nAxes_le : u.cfg.nAxes ≤ 4

theorem step_cfg (h : step s = .next t) : t.cfg = s.cfg := (stepEffect_of_step h).cfg_eq

theorem State.advance_seq_wired (hl : s.opList = none) (hq : s.seq < s.cfg.nAxes + 1) : s.advance.seq = s.seq + 1 := by
  rw [(s.advance_wired hl).1]
  exact Nat.mod_eq_of_lt (by omega)

/-- `SMUL` samples the select lines and begins the iteration. -/
theorem step_inIteration_of_start (hs : s.AtIterationStart) (hrun : s.Running) :
    ∃ t, step s = .next t ∧ t.InIteration s.observe (Samples.ofSelect s.draw) := by
  obtain ⟨hq, hl, hf, hsl, hlen, hn⟩ := hs
  have hstep := step_wired hl
  rw [hq, prog_zero, execSmul_running hrun] at hstep
  refine ⟨_, hstep, ?_, ?_, by simp [Samples.ofSelect], by simp [hsl], by simp [State.advance_opList, hl],
    by simpa [State.observe] using hlen, by simpa using hn⟩
  · simp [State.observe, partialResult, updatedAxes, iterationUpdates_nil, hf, hsl, Samples.ofSelect, Samples.mult,
      select]
  · exact (State.advance_seq_wired (s := (s.record _).latch _) hl (by simp [hq])).trans (by simp [hq, Samples.ofSelect])

theorem State.InIteration.fault_eq (h : u.InIteration o x) : u.fault = false :=
  congrArg Observation.fault h.observed

theorem State.InIteration.length_axes (h : u.InIteration o x) : u.axes.length = u.cfg.nAxes := by
  have haxes : u.axes = _ := congrArg Observation.axes h.observed
  rw [haxes]
  exact (updatedAxes_length _ _ (h.counts_le.trans h.axes_length.ge)).trans h.axes_length

/-- `UPD a` samples the count of its axis and stays in the iteration. -/
theorem State.InIteration.step_upd (h : u.InIteration o x) (hrun : u.Running) (hlt : x.counts.length < u.cfg.nAxes) :
    ∃ t, step u = .next t ∧ t.InIteration o (x.addCount (u.readCount x.counts.length)) := by
  obtain ⟨hobs, hq, -, hawake, hl, hlen, hn⟩ := h
  obtain ⟨haxes, hm, hf, hh⟩ := Observation.mk.inj hobs
  have hsl := hawake hlt
  have htoNat : (BitVec.ofNat 2 x.counts.length).toNat = x.counts.length := Nat.mod_eq_of_lt (by omega)
  have hr : o.axes[x.counts.length]? = some (o.axes[x.counts.length]'(hlen ▸ hlt)) := List.getElem?_eq_getElem _
  have hax : u.axisAt x.counts.length = _ := State.axisAt_eq_some.mpr ⟨hlt, by rw [haxes, updatedAxes_getElem?, hr]⟩
  have hstep := step_wired hl
  rw [hq, prog_axis hlt, execUpd_running hrun (by rwa [htoNat]) hm, htoNat] at hstep
  refine ⟨_, hstep, ?_, ?_, by simpa using hlt, by simp [hsl], by simp [State.advance_opList, hl], by simpa using hlen,
    by simpa using hn⟩
  · refine Observation.mk.injEq .. ▸ ⟨?_, by simpa using hm, by simpa using hf, ?_⟩
    · rw [State.consume_axes, State.advance_axes, State.updateAxis_axes_eq_set_iterationAxis, haxes,
        updatedAxes_set _ hr]
      simp
    · rw [State.consume_history, State.advance_history, State.updateAxis_history_eq_append_iterationUpdates, hh]
      simp [hsl, iterationUpdates_append _ hr]
  · exact (State.advance_seq_wired (s := u.updateAxis _ _ _) hl (by simpa [hq] using hlt)).trans (by simp [hq])

theorem State.observe_requestSleep (s : State) : s.requestSleep.observe =
    { s.observe with history := s.observe.history ++ if s.sleeping then [] else [.sleep s.cfg.periodMs] } := by
  simp [State.observe, State.requestSleep_history]

theorem partialResult_sleep (p : Params) (o : Observation) (x : Samples) (b : Bool) :
    { partialResult p o x b with
      history := (partialResult p o x b).history ++ if b then [] else [.sleep p.periodMs] } =
      partialResult p o x true := by
  cases b <;> simp [partialResult]

/-- With `WAIT`'s sleep requested the block is observed as the law says, whether it then wakes or holds. -/
theorem State.InIteration.observe_requestSleep (h : u.InIteration o x) (hall : x.counts.length = u.cfg.nAxes) :
    u.requestSleep.observe = iterationResult u.cfg o x := by
  rw [← partialResult_eq_iterationResult (hall.trans h.axes_length.symm), State.observe_requestSleep, h.observed,
    partialResult_sleep]

theorem State.InIteration.step_hold (h : u.InIteration o x) (hrun : u.Running) (hall : x.counts.length = u.cfg.nAxes)
    (hp : u.draw.periodElapsed = false) : ∃ t, step u = .next t ∧ t.InIteration o x := by
  have hstep := step_wired_wait h.wired (hall ▸ h.seq)
  rw [execWait_holds hrun hp] at hstep
  refine ⟨_, hstep, ?_, by simp [h.seq], by simp [hall], by simp [hall], by simp [h.wired], by simp [h.axes_length],
    by simp [h.nAxes_le]⟩
  have hobs := h.observe_requestSleep hall
  rw [← partialResult_eq_iterationResult (hall.trans h.axes_length.symm)] at hobs
  simpa [State.observe] using hobs

theorem State.InIteration.step_wake (h : u.InIteration o x) (hrun : u.Running) (hall : x.counts.length = u.cfg.nAxes)
    (hp : u.draw.periodElapsed = true) :
    ∃ t, step u = .next t ∧ t.AtIterationStart ∧ t.observe = iterationResult u.cfg o x := by
  have hstep := step_wired_wait h.wired (hall ▸ h.seq)
  rw [execWait_wakes hrun hp] at hstep
  refine ⟨_, hstep, ⟨?_, by simp [State.advance_opList, h.wired], by simp [h.fault_eq], by simp, by simp [h.length_axes],
    by simp [h.nAxes_le]⟩, ?_⟩
  · simp [State.advance_seq, h.wired, nextSeq, h.seq, hall]
  · rw [← h.observe_requestSleep hall]
    simp [State.observe]

/-! ### One iteration on given draws -/

theorem step_inputs (h : step s = .next t) : t.inputs = s.inputs.tail := by
  cases stepEffect_of_step h <;> simp

theorem runSteps_trans {m : Nat} (h : runSteps m s = .next t) (n : Nat) : runSteps (m + n) s = runSteps n t := by
  induction m generalizing s with
  | zero =>
    cases h
    rw [Nat.zero_add]
  | succ m ih =>
    cases hs : step s with
    | next u =>
      rw [Nat.add_right_comm, runSteps_next hs]
      exact ih ((runSteps_next hs m).symm.trans h)
    | fault r => simp [runSteps, hs] at h
    | refused r => simp [runSteps, hs] at h

/-- The updates of an iteration, one plain draw each. -/
theorem State.InIteration.runSteps_counts {ds rest : List Inputs} (h : u.InIteration o x) (hin : u.inputs = ds ++ rest)
    (hds : ∀ d ∈ ds, PlainDraw d) (hlen : x.counts.length + ds.length ≤ u.cfg.nAxes) :
    ∃ t, runSteps ds.length u = .next t ∧ t.inputs = rest ∧ t.cfg = u.cfg ∧ t.InIteration o
      { x with counts := x.counts ++ ds.mapIdx fun i d => countOn u.cfg d (x.counts.length + i) } := by
  induction ds generalizing u x with
  | nil => exact ⟨u, rfl, hin, rfl, by simpa using h⟩
  | cons d ds ih =>
    obtain ⟨hd, hds⟩ := List.forall_mem_cons.mp hds
    rw [List.length_cons] at hlen
    have hdraw : u.draw = d := u.draw_cons d _ hin
    obtain ⟨v, hv, hvit⟩ := h.step_upd (State.running_of_inputs_cons hin hd h.fault_eq) (by omega)
    have hcfg := step_cfg hv
    obtain ⟨t, ht, hti, htc, htit⟩ := ih hvit (by rw [step_inputs hv, hin]; rfl) hds
      (by simpa [hcfg, Nat.add_assoc, Nat.add_comm 1] using hlen)
    refine ⟨t, (runSteps_next hv _).trans ht, hti, htc.trans hcfg, ?_⟩
    simpa [hcfg, State.readCount, hdraw, Samples.addCount, Nat.add_assoc, Nat.add_comm 1] using htit

/-- The holds of an iteration's `WAIT`. -/
theorem State.InIteration.runSteps_holds {ds rest : List Inputs} (h : u.InIteration o x)
    (hall : x.counts.length = u.cfg.nAxes) (hin : u.inputs = ds ++ rest)
    (hds : ∀ d ∈ ds, PlainDraw d ∧ d.periodElapsed = false) :
    ∃ t, runSteps ds.length u = .next t ∧ t.inputs = rest ∧ t.cfg = u.cfg ∧ t.InIteration o x := by
  induction ds generalizing u with
  | nil => exact ⟨u, rfl, hin, rfl, h⟩
  | cons d ds ih =>
    obtain ⟨⟨hd, hp⟩, hds⟩ := List.forall_mem_cons.mp hds
    have hdraw : u.draw = d := u.draw_cons d _ hin
    obtain ⟨v, hv, hvit⟩ := h.step_hold (State.running_of_inputs_cons hin hd h.fault_eq) hall (hdraw ▸ hp)
    have hcfg := step_cfg hv
    obtain ⟨t, ht, hti, htc, htit⟩ := ih hvit (hcfg ▸ hall) (by rw [step_inputs hv, hin]; rfl) hds
    exact ⟨t, (runSteps_next hv _).trans ht, hti, htc.trans hcfg, htit⟩

/-- Settles O28: `SMUL` begins the iteration, the updates and the holds stay in it, and the draw that ends it applies
the law in full. -/
theorem iterationLaw : Obligations.IterationLaw := by
  intro s ⟨select, counts, holds, wake⟩ rest hs ⟨hlen, hplain, hholds, hwake⟩ hin
  simp only [IterationDraws.draws, List.forall_mem_cons, List.forall_mem_append] at hplain
  obtain ⟨hselect, hcounts, hplainHolds, hplainWake, -⟩ := hplain
  simp only [IterationDraws.draws, List.cons_append, List.append_assoc, List.nil_append] at hin
  have ⟨_, _, hf, _⟩ := hs
  obtain ⟨u, hu, huit⟩ := step_inIteration_of_start hs (State.running_of_inputs_cons hin hselect hf)
  have huc := step_cfg hu
  rw [s.draw_cons _ _ hin] at huit
  obtain ⟨v, hv, hvi, hvc, hvit⟩ := huit.runSteps_counts (by rw [step_inputs hu, hin]; rfl) hcounts
    (by simpa [huc, Samples.ofSelect] using hlen.le)
  obtain ⟨w, hw, hwi, hwc, hwit⟩ := hvit.runSteps_holds (by simpa [huc, hvc, Samples.ofSelect] using hlen) hvi
    fun d hd => ⟨hplainHolds d hd, hholds d hd⟩
  obtain ⟨t, ht, hstart, htobs⟩ := hwit.step_wake (State.running_of_inputs_cons hwi hplainWake hwit.fault_eq)
    (by simpa [huc, hvc, hwc, Samples.ofSelect] using hlen) (w.draw_cons _ _ hwi ▸ hwake)
  have htc := step_cfg ht
  refine ⟨t, ?_, ?_, hstart, htc.trans (hwc.trans (hvc.trans huc)), ?_⟩
  · simp only [IterationDraws.draws, List.length_cons, List.length_append, List.length_nil]
    rw [runSteps_next hu, runSteps_trans hv, runSteps_trans hw, runSteps_next ht, runSteps]
  · rw [htobs, hwc, hvc, huc]
    simp [Samples.ofSelect, IterationDraws.samples]
  · rw [step_inputs ht, hwi]
    rfl

end Sys2Proof.Machine

/-! The end of a run observed for `k` iterations (42_control_loop.md R169): the step that completes a `WAIT` is the one
that takes the sequencer round, and between two of them stands one iteration law. -/

namespace Sys2Proof.Machine

variable {s t u : State} {o : Observation} {x : Samples} {fuel k n : Nat}

/-! ### The step of the wired program -/

theorem step_opList (h : step s = .next t) (hl : s.opList = none) : t.opList = none := by
  cases stepEffect_of_step h <;> simp [State.advance_opList, hl]

theorem step_seq_lt (h : step s = .next t) (hrun : s.Running) (hq : s.seq < s.cfg.nAxes + 2) :
    t.seq < t.cfg.nAxes + 2 := by
  rw [step_cfg h]
  obtain ⟨hrst, -, -⟩ := hrun
  obtain hs | hr | hs := (stepEffect_of_step h).seq_cases
  · exact hs ▸ hq
  · exact absurd hr (ne_true_of_eq_false hrst)
  · exact hs ▸ Nat.mod_lt _ (Nat.succ_pos _)

theorem step_fault (h : step s = .next t) (hrun : s.Running) : t.fault = false := by
  obtain ⟨-, hfail, hfault⟩ := hrun
  obtain ⟨-, hf⟩ | ⟨hh, -⟩ | hf := (stepEffect_of_step h).fault_cases
  · exact hf
  · exact absurd hh (ne_true_of_eq_false hfail)
  · exact hf.trans hfault

theorem prog_eq_wait_iff {q : Nat} (hq : q < n + 2) : prog n q = .wait ↔ q = n + 1 := by
  constructor
  · intro h
    exact Nat.le_antisymm (Nat.le_of_lt_succ hq) (lt_of_prog_wait h)
  · rintro rfl
    exact prog_last n

theorem completesWait_iff (hl : s.opList = none) (hq : s.seq < s.cfg.nAxes + 2) :
    s.completesWait = true ↔ s.seq = s.cfg.nAxes + 1 ∧ s.draw.periodElapsed = true := by
  simp [State.completesWait, State.fetch_wired hl, encode_injective.eq_iff, prog_eq_wait_iff hq]

/-- The step that completes a `WAIT` is the one that takes the sequencer round (42_control_loop.md R161, R162). -/
theorem completesWait_iff_round (hl : s.opList = none) (hq : s.seq < s.cfg.nAxes + 2) (hrun : s.Running)
    (h : step s = .next t) : s.completesWait = true ↔ s.seq = s.cfg.nAxes + 1 ∧ t.seq = 0 := by
  rw [completesWait_iff hl hq, and_congr_right_iff]
  intro hlast
  rw [step_wired_wait hl hlast] at h
  cases hp : s.draw.periodElapsed with
  | true =>
    rw [execWait_wakes hrun hp] at h
    cases h
    simp [State.advance_seq, hl, nextSeq, hlast]
  | false =>
    rw [execWait_holds hrun hp] at h
    cases h
    simp [hlast]

/-! ### Where a run ends -/

theorem iterationsEnd_succ_iff : iterationsEnd (fuel + 1) (k + 1) s = some t ↔
    s.Running ∧ ∃ u, step s = .next u ∧ iterationsEnd fuel (if s.completesWait then k else k + 1) u = some t := by
  by_cases hrun : s.Running
  · cases hs : step s with
    | next u =>
      rw [iterationsEnd_step hrun hs]
      constructor
      · exact fun he => ⟨hrun, u, rfl, he⟩
      · rintro ⟨-, _, ⟨⟩, he⟩
        exact he
    | fault r => simp [iterationsEnd, hs]
    | refused r => simp [iterationsEnd, hs]
  · simp [iterationsEnd, hrun]

/-- The first `n` steps from `s` are operations' own and lead to `t`, and the sequencer has gone round `k` times after
them for the first time. -/
def EndsAfter (n k : Nat) (s t : State) : Prop :=
  runSteps n s = .next t ∧ (∀ i u, i < n → runSteps i s = .next u → u.Running) ∧
  waitsCompleted n s = k ∧ ∀ i, i < n → waitsCompleted i s < k

theorem endsAfter_no_round_iff : EndsAfter n 0 s t ↔ n = 0 ∧ s = t := by
  constructor
  · rintro ⟨hrun, -, -, hfirst⟩
    obtain rfl : n = 0 := Nat.eq_zero_of_not_pos fun hn => Nat.not_lt_zero _ (hfirst 0 hn)
    exact ⟨rfl, Host.Outcome.next.inj hrun⟩
  · rintro ⟨rfl, rfl⟩
    exact ⟨rfl, nofun, rfl, nofun⟩

theorem not_endsAfter_zero_succ : ¬ EndsAfter 0 (k + 1) s t := by
  rintro ⟨-, -, hcount, -⟩
  cases hcount

theorem waitsCompleted_succ (h : step s = .next u) (n : Nat) : waitsCompleted (n + 1) s =
    (if s.seq = s.cfg.nAxes + 1 ∧ u.seq = 0 then 1 else 0) + waitsCompleted n u := by
  rw [waitsCompleted, h]

theorem waitsCompleted_succ_eq_iff (h : step s = .next u) : waitsCompleted (n + 1) s = k + 1 ↔
    waitsCompleted n u = if s.seq = s.cfg.nAxes + 1 ∧ u.seq = 0 then k else k + 1 := by
  rw [waitsCompleted_succ h]
  split_ifs <;> omega

theorem waitsCompleted_succ_lt_iff (h : step s = .next u) : waitsCompleted (n + 1) s < k + 1 ↔
    waitsCompleted n u < if s.seq = s.cfg.nAxes + 1 ∧ u.seq = 0 then k else k + 1 := by
  rw [waitsCompleted_succ h]
  split_ifs <;> omega

theorem exists_step_of_runSteps_succ (h : runSteps (n + 1) s = .next t) :
    ∃ u, step s = .next u ∧ runSteps n u = .next t := by
  cases hs : step s with
  | next u => exact ⟨u, rfl, (runSteps_next hs n).symm.trans h⟩
  | fault r => simp [runSteps, hs] at h
  | refused r => simp [runSteps, hs] at h

theorem endsAfter_succ_iff : EndsAfter (n + 1) (k + 1) s t ↔ s.Running ∧ ∃ u, step s = .next u ∧
    EndsAfter n (if s.seq = s.cfg.nAxes + 1 ∧ u.seq = 0 then k else k + 1) u t := by
  constructor
  · rintro ⟨hsteps, hrun, hcount, hfirst⟩
    obtain ⟨u, hu, ht⟩ := exists_step_of_runSteps_succ hsteps
    exact ⟨hrun 0 s (Nat.succ_pos n) rfl, u, hu, ht,
      fun i v hi hv => hrun (i + 1) v (Nat.succ_lt_succ hi) ((runSteps_next hu i).trans hv),
      (waitsCompleted_succ_eq_iff hu).mp hcount,
      fun i hi => (waitsCompleted_succ_lt_iff hu).mp (hfirst (i + 1) (Nat.succ_lt_succ hi))⟩
  · rintro ⟨hs, u, hu, ht, hrun, hcount, hfirst⟩
    refine ⟨(runSteps_next hu n).trans ht, fun i v hi hv => ?_,
      (waitsCompleted_succ_eq_iff hu).mpr hcount, fun i hi => ?_⟩
    · cases i with
      | zero =>
        cases hv
        exact hs
      | succ i => exact hrun i v (Nat.lt_of_succ_lt_succ hi) ((runSteps_next hu i).symm.trans hv)
    · cases i with
      | zero => exact Nat.succ_pos k
      | succ i => exact (waitsCompleted_succ_lt_iff hu).mpr (hfirst i (Nat.lt_of_succ_lt_succ hi))

theorem iterationsEnd_iff_endsAfter (hl : s.opList = none) (hq : s.seq < s.cfg.nAxes + 2) :
    iterationsEnd fuel k s = some t ↔ ∃ n ≤ fuel, EndsAfter n k s t := by
  induction fuel generalizing k s with
  | zero =>
    cases k with
    | zero => simp [endsAfter_no_round_iff]
    | succ k => simp [iterationsEnd, not_endsAfter_zero_succ]
  | succ fuel ih =>
    cases k with
    | zero => simp [endsAfter_no_round_iff]
    | succ k =>
      have first_step (u : State) (hrun : s.Running) (hu : step s = .next u) :
          iterationsEnd fuel (if s.completesWait then k else k + 1) u = some t ↔
            ∃ n ≤ fuel, EndsAfter n (if s.seq = s.cfg.nAxes + 1 ∧ u.seq = 0 then k else k + 1) u t := by
        simp only [completesWait_iff_round hl hq hrun hu]
        exact ih (step_opList hu hl) (step_seq_lt hu hrun hq)
      rw [iterationsEnd_succ_iff]
      constructor
      · rintro ⟨hrun, u, hu, he⟩
        obtain ⟨n, hn, hends⟩ := (first_step u hrun hu).mp he
        exact ⟨n + 1, Nat.succ_le_succ hn, endsAfter_succ_iff.mpr ⟨hrun, u, hu, hends⟩⟩
      · rintro ⟨_ | n, hn, hends⟩
        · exact absurd hends not_endsAfter_zero_succ
        · obtain ⟨hrun, u, hu, hends⟩ := endsAfter_succ_iff.mp hends
          exact ⟨hrun, u, hu, (first_step u hrun hu).mpr ⟨n, Nat.le_of_succ_le_succ hn, hends⟩⟩

/-- A run ends between two iterations (42_control_loop.md R169). -/
theorem iterationsEnd_succ_between (hl : s.opList = none) (hq : s.seq < s.cfg.nAxes + 2)
    (he : iterationsEnd fuel (k + 1) s = some t) : t.seq = 0 ∧ t.opList = none ∧ t.fault = false := by
  induction fuel generalizing k s with
  | zero => cases he
  | succ fuel ih =>
    obtain ⟨hrun, u, hu, he⟩ := iterationsEnd_succ_iff.mp he
    have hul := step_opList hu hl
    have huq := step_seq_lt hu hrun hq
    split_ifs at he with hc
    · cases k with
      | zero =>
        rw [iterationsEnd_zero] at he
        cases he
        exact ⟨((completesWait_iff_round hl hq hrun hu).mp hc).2, hul, step_fault hu hrun⟩
      | succ k => exact ih hul huq he
    · exact ih hul huq he

/-- Settles O30: by induction on the fuel, the run's first step counting a round exactly when it completes a `WAIT`. -/
theorem runEndsAtItsLastCompletedWait : Obligations.RunEndsAtItsLastCompletedWait := fun _ _ _ _ hl hq =>
  ⟨iterationsEnd_iff_endsAfter hl hq, iterationsEnd_succ_between hl hq⟩

/-! ### A run as iterations -/

/-- One iteration with the law `iterationResult p o`, and then a run of `k` iterations that ends in `t`. -/
def IterationThenRun (p : Params) (o : Observation) (k : Nat) (t : State) : Prop :=
  ∃ fuel v x, v.AtIterationStart ∧ v.cfg = p ∧ x.counts.length = p.nAxes ∧ v.observe = iterationResult p o x ∧
    iterationsEnd fuel k v = some t

/-- A run observed from the middle of an iteration completes that iteration first, by the law on some counts. -/
theorem State.InIteration.iterationsEnd_succ (h : u.InIteration o x) (he : iterationsEnd fuel (k + 1) u = some t) :
    IterationThenRun u.cfg o k t := by
  induction fuel generalizing u x with
  | zero => cases he
  | succ fuel ih =>
    obtain ⟨hrun, v, hv, he⟩ := iterationsEnd_succ_iff.mp he
    have hseq : u.seq < u.cfg.nAxes + 2 := h.seq ▸ Nat.add_lt_add_of_le_of_lt h.counts_le Nat.one_lt_two
    have hcfg := step_cfg hv
    have stays {x' : Samples} (hc : u.completesWait ≠ true) (hvit : v.InIteration o x') :
        IterationThenRun u.cfg o k t := by
      rw [if_neg hc] at he
      exact hcfg ▸ ih hvit he
    obtain hlt | hall := h.counts_le.lt_or_eq
    · have hc : u.completesWait ≠ true := by
        rw [Ne, completesWait_iff h.wired hseq, h.seq]
        omega
      obtain ⟨_, hv', hvit⟩ := h.step_upd hrun hlt
      cases hv.symm.trans hv'
      exact stays hc hvit
    · have hc := completesWait_iff h.wired hseq
      cases hp : u.draw.periodElapsed with
      | true =>
        obtain ⟨_, hv', hstart, hobs⟩ := h.step_wake hrun hall hp
        cases hv.symm.trans hv'
        rw [if_pos (hc.mpr ⟨by rw [h.seq, hall], hp⟩)] at he
        exact ⟨fuel, v, x, hstart, hcfg, hall, hobs, he⟩
      | false =>
        obtain ⟨_, hv', hvit⟩ := h.step_hold hrun hall hp
        cases hv.symm.trans hv'
        exact stays (by simp [hc, hp]) hvit

/-- So does a run observed from the beginning of an iteration: its first step is `SMUL`. -/
theorem State.AtIterationStart.iterationsEnd_succ (hs : s.AtIterationStart)
    (he : iterationsEnd fuel (k + 1) s = some t) : IterationThenRun s.cfg s.observe k t := by
  cases fuel with
  | zero => cases he
  | succ fuel =>
    obtain ⟨hrun, u, hu, he⟩ := iterationsEnd_succ_iff.mp he
    obtain ⟨_, hu', huit⟩ := step_inIteration_of_start hs hrun
    cases hu.symm.trans hu'
    have hc : s.completesWait ≠ true := by
      obtain ⟨hq, hl, -⟩ := hs
      rw [Ne, completesWait_iff hl (by omega)]
      omega
    rw [if_neg hc] at he
    exact step_cfg hu ▸ huit.iterationsEnd_succ he

/-- A run is the iteration law repeated, from any observation that it starts with. -/
theorem State.AtIterationStart.observe_iterationsEnd (hs : s.AtIterationStart) (he : iterationsEnd fuel k s = some t) :
    t.AtIterationStart ∧ t.cfg = s.cfg ∧ ∃ xs : List Samples, xs.length = k ∧
      (∀ x ∈ xs, x.counts.length = s.cfg.nAxes) ∧ t.observe = xs.foldl (iterationResult s.cfg) s.observe := by
  induction k generalizing s fuel with
  | zero =>
    rw [iterationsEnd_zero] at he
    cases he
    exact ⟨hs, rfl, [], rfl, nofun, rfl⟩
  | succ k ih =>
    obtain ⟨fuel', v, x, hv, hcfg, hx, hobs, he⟩ := hs.iterationsEnd_succ he
    obtain ⟨ht, htc, xs, hlen, hxs, htobs⟩ := ih hv he
    rw [hcfg] at hxs htobs htc
    exact ⟨ht, htc, x :: xs, by rw [List.length_cons, hlen], List.forall_mem_cons.mpr ⟨hx, hxs⟩,
      by rw [htobs, hobs, List.foldl_cons]⟩

/-! ### The run's own events -/

/-- The observation with the events `es` before its own. -/
def Observation.after (o : Observation) (es : List Event) : Observation := { o with history := es ++ o.history }

theorem iterationResult_after (p : Params) (o : Observation) (es : List Event) (x : Samples) :
    iterationResult p (o.after es) x = (iterationResult p o x).after es := by
  simp [iterationResult, Observation.after]

/-- The law adds events and does not read them. -/
theorem foldl_iterationResult_after (p : Params) (o : Observation) (es : List Event) (xs : List Samples) :
    xs.foldl (iterationResult p) (o.after es) = (xs.foldl (iterationResult p) o).after es := by
  induction xs generalizing o with
  | nil => rfl
  | cons x xs ih => rw [List.foldl_cons, List.foldl_cons, iterationResult_after, ih]

theorem filter_sleep_iterationUpdates (p : Params) (m a : Nat) (rs : List Axis) (cs : List Int) (e : PNat) :
    (iterationUpdates p m a rs cs).filter (fun v => decide (v = .sleep e)) = [] := by
  induction rs generalizing a cs with
  | nil => rfl
  | cons r rs ih =>
    cases cs with
    | nil => rfl
    | cons c cs => simpa [iterationUpdates] using ih (a + 1) cs

theorem filter_sleep_foldl_iterationResult (p : Params) (o : Observation) (xs : List Samples) :
    (xs.foldl (iterationResult p) o).history.filter (fun e => decide (e = .sleep p.periodMs)) =
      o.history.filter (fun e => decide (e = .sleep p.periodMs)) ++ List.replicate xs.length (.sleep p.periodMs) := by
  induction xs generalizing o with
  | nil => simp
  | cons x xs ih =>
    rw [List.foldl_cons, ih]
    simp [iterationResult, filter_sleep_iterationUpdates, List.replicate_succ]

theorem observeRun_of_observe_after (h : t.observe = o.after s.history) : observeRun s t = o := by
  obtain ⟨haxes, hm, hf, hh⟩ := Observation.mk.inj h
  simp [observeRun, newEvents, haxes, hm, hf, hh]

/-- Settles O31: the run is the law repeated, whose events are added behind those before the run. -/
theorem observedRunIsTheIterationLawRepeated : Obligations.ObservedRunIsTheIterationLawRepeated := by
  intro fuel k s t hs he
  obtain ⟨ht, hc, xs, hlen, hxs, hobs⟩ := hs.observe_iterationsEnd he
  have hstart : s.observe = Observation.after { s.observe with history := [] } s.history := by
    simp [Observation.after, State.observe]
  rw [hstart, foldl_iterationResult_after] at hobs
  have hrun := observeRun_of_observe_after hobs
  have hevents : newEvents s t = _ := congrArg Observation.history hrun
  refine ⟨ht, hc, xs, hlen, hxs, hrun, ?_⟩
  rw [hevents, filter_sleep_foldl_iterationResult, hlen]
  rfl

end Sys2Proof.Machine

/-! The external interfaces (43_external_interfaces.md): the select lines behind their polarity, and the event history,
which no operation reads back. -/

namespace Sys2Proof.Machine

/-! ### The select lines -/

/-- A line is asserted on the port exactly when its level is `SEL_ACTIVE`, for either polarity (10_state.md R32). -/
theorem selWord_getLsbD (p : Params) (levels : BitVec 3) {k : Nat} (hk : k < 3) :
    (selWord p levels).getLsbD k = decide (levels.extractLsb' k 1 = p.selActive) := by
  have hline : levels.extractLsb' k 1 = BitVec.ofBool levels[k] := by
    ext i hi
    obtain rfl : i = 0 := by omega
    simp [BitVec.getLsbD_eq_getElem hk]
  rw [hline]
  obtain hlow | hhigh := BitVec.eq_zero_or_eq_one p.selActive
  · cases h : levels[k] <;> simp [selWord, hlow, h, hk]
  · cases h : levels[k] <;> simp [selWord, hhigh, h, hk]

theorem select_selWord (p : Params) (levels : BitVec 3) :
    select p ((selWord p levels).getLsbD 0) ((selWord p levels).getLsbD 1) ((selWord p levels).getLsbD 2) =
      if levels.extractLsb' 0 1 = p.selActive then p.multTier1
      else if levels.extractLsb' 1 1 = p.selActive then p.multTier2
      else if levels.extractLsb' 2 1 = p.selActive then p.multTier3 else p.multDefault := by
  simp [select, selWord_getLsbD, -BitVec.getLsbD_eq_getElem]

/-- Settles O15: `SMUL` latches the selection from the port word, whose lines are those at the level `SEL_ACTIVE`. -/
theorem selectPolarityIsNormalised : Obligations.SelectPolarityIsNormalised := by
  intro s levels hrun hsel
  refine ⟨_, execSmul_running hrun, ?_⟩
  simp only [State.consume_m, State.advance_m, State.latch_m, hsel, select_selWord]

/-! ### The event history -/

/-- The state whose history is that of `s` behind the events `es`. -/
def State.after (s : State) (es : List Event) : State := { s with history := es ++ s.history }

/-- The same answer, with the history of a next state behind the events `es`. -/
def answerAfter (es : List Event) : Host.Outcome State Fault Refusal → Host.Outcome State Fault Refusal
  | .next t => .next (t.after es)
  | .fault r => .fault r
  | .refused r => .refused r

section

variable (s : State) (es : List Event)

@[simp] theorem answerAfter_next (t : State) : answerAfter es (.next t) = .next (t.after es) := rfl
@[simp] theorem answerAfter_refused (r : Refusal) : answerAfter es (.refused r) = .refused r := rfl

@[simp] theorem State.after_cfg : (s.after es).cfg = s.cfg := rfl
@[simp] theorem State.after_m : (s.after es).m = s.m := rfl
@[simp] theorem State.after_fault : (s.after es).fault = s.fault := rfl
@[simp] theorem State.after_sleeping : (s.after es).sleeping = s.sleeping := rfl
@[simp] theorem State.after_draw : (s.after es).draw = s.draw := rfl
@[simp] theorem State.after_fetch : (s.after es).fetch = s.fetch := rfl
@[simp] theorem State.after_axisAt (a : Nat) : (s.after es).axisAt a = s.axisAt a := rfl
@[simp] theorem State.after_readSel : (s.after es).readSel = s.readSel := rfl
@[simp] theorem State.after_readCount (a : Nat) : (s.after es).readCount a = s.readCount a := rfl
@[simp] theorem State.after_setAxis (a : Nat) (r : Axis) : (s.after es).setAxis a r = (s.setAxis a r).after es := rfl
@[simp] theorem State.after_latch (m : Nat) : (s.after es).latch m = (s.latch m).after es := rfl
@[simp] theorem State.after_setSleeping (b : Bool) : (s.after es).setSleeping b = (s.setSleeping b).after es := rfl
@[simp] theorem State.after_consume : (s.after es).consume = s.consume.after es := rfl

@[simp] theorem State.after_record (e : Event) : (s.after es).record e = (s.record e).after es := by
  simp [State.record, State.after]

@[simp] theorem State.after_takeReset : (s.after es).takeReset = s.takeReset.after es := by
  simp [State.takeReset, State.after]

@[simp] theorem State.after_takeHalFailure : (s.after es).takeHalFailure = s.takeHalFailure.after es := by
  simp [State.takeHalFailure, State.record, State.consume, State.after]

@[simp] theorem State.after_advance : (s.after es).advance = s.advance.after es := by
  cases h : s.opList <;> simp [State.advance, State.after, h]

@[simp] theorem State.after_requestSleep : (s.after es).requestSleep = s.requestSleep.after es := by
  cases h : s.sleeping <;> simp [State.requestSleep, h]

@[simp] theorem State.after_updateAxis (a : Nat) (r : Axis) (m : Nat) :
    (s.after es).updateAxis a r m = (s.updateAxis a r m).after es := by
  simp [State.updateAxis, State.commit]

/-- The frame of a step does not look at the history. -/
theorem State.after_attempt {b b' : Host.Outcome State Fault Refusal} (hb : b' = answerAfter es b) :
    (s.after es).attempt b' = answerAfter es (s.attempt b) := by
  simp only [State.attempt, apply_ite (answerAfter es), State.after_draw, State.after_fault, State.after_takeReset,
    State.after_consume, State.after_takeHalFailure, answerAfter_next, hb]

theorem exec_after (i : Instr) : exec i (s.after es) = answerAfter es (exec i s) := by
  cases i with
  | smul => exact s.after_attempt es (by simp)
  | upd a =>
    apply State.after_attempt
    rw [State.after_axisAt, State.after_m]
    cases s.axisAt a.toNat with
    | none => rfl
    | some r =>
      cases s.m with
      | none => rfl
      | some m => simp
  | wait =>
    apply State.after_attempt
    simp [apply_ite (answerAfter es)]

theorem step_after : step (s.after es) = answerAfter es (step s) := by
  simp only [step, cycle, State.after_fetch, State.after_cfg]
  split
  · exact s.after_attempt es rfl
  · split
    · exact exec_after s es _
    · exact s.after_attempt es rfl

end

/-- Settles O43: both steps are the step from the empty history, which fixes the events that are added, with the one or
the other history before them. -/
theorem historyIsNeverReadBack : Obligations.HistoryIsNeverReadBack := by
  intro s h
  have hempty (es : List Event) :
      step { s with history := es } = answerAfter es (step { s with history := [] }) := by
    simpa [State.after] using step_after { s with history := [] } es
  have hown : step s = answerAfter s.history (step { s with history := [] }) := hempty s.history
  rw [hown, hempty h]
  cases step { s with history := [] } with
  | next u =>
    refine ⟨fun t ht => ?_, nofun⟩
    cases ht
    exact ⟨u.history, rfl, rfl⟩
  | fault r => exact ⟨nofun, nofun⟩
  | refused r => exact ⟨nofun, fun _ hr => hr⟩

end Sys2Proof.Machine

/-! Failure and refusal (60_exceptions.md): `hal_fail` stops every step in the same state, and under the fixed program
every step answers a next state. -/

namespace Sys2Proof.Machine

variable {s t : State}

/-! ### `HAL_FAILURE` -/

/-- While a fault stands the outputs have no value (60_exceptions.md R222). -/
theorem ports_of_fault (hf : t.fault = true) :
    sleepReq s t = none ∧ ∀ a, t.dirO a = none ∧ t.dutyO a = none ∧ commitO s t a = none := by
  simp [sleepReq, State.dirO, State.dutyO, commitO, hf]

/-- Settles O33: a failing step and a failing operation both end in `takeHalFailure`, whose fields are known. -/
theorem failureStopsEveryStep : Obligations.FailureStopsEveryStep := fun s hr hf hh =>
  ⟨s.takeHalFailure, step_failure hr hf hh, exec_failure hr hf hh, rfl, rfl, rfl, rfl, rfl, rfl, rfl, rfl, ⟨rfl, rfl⟩,
    ports_of_fault rfl⟩

/-! ### No refusal under the fixed program -/

/-- Reset, a standing fault and a failure all answer a next state, so only a running block can lack one
(60_exceptions.md R225). -/
theorem exists_step_of_running (h : s.Running → ∃ t, step s = .next t) : ∃ t, step s = .next t := by
  obtain ⟨body, hbody⟩ := exists_step_eq_attempt s
  cases hr : s.draw.rst with
  | true => exact ⟨_, hbody.trans (s.attempt_reset hr body)⟩
  | false =>
    cases hf : s.fault with
    | true => exact ⟨_, step_stuck hr hf⟩
    | false =>
      cases hh : s.draw.halFail with
      | true => exact ⟨_, step_failure hr hf hh⟩
      | false => exact h ⟨hr, hh, hf⟩

/-- The invariant holds ready what the program's operation needs: an `UPD` finds its axis and the multiplier that
`SMUL` latched (40_axis_controller.md R105, 41_scale_selector.md R145). -/
theorem State.Inv.exists_exec_prog (hs : s.Inv) (hrun : s.Running) :
    ∃ t, exec (prog s.cfg.nAxes s.seq) s = .next t := by
  obtain ⟨⟨-, hn, -⟩, hlen, -, -, -, hlatched, -, -⟩ := hs
  cases hi : prog s.cfg.nAxes s.seq with
  | smul => exact ⟨_, execSmul_running hrun⟩
  | upd a =>
    obtain ⟨hq, ha⟩ := eq_of_prog_upd hn hi
    obtain ⟨m, hm⟩ := Option.isSome_iff_exists.mp (hlatched (by omega))
    exact ⟨_, execUpd_running hrun (State.axisAt_of_lt hlen ha) hm⟩
  | wait =>
    cases hp : s.draw.periodElapsed with
    | true => exact ⟨_, execWait_wakes hrun hp⟩
    | false => exact ⟨_, execWait_holds hrun hp⟩

theorem State.Inv.exists_step (hs : s.Inv) (hl : s.opList = none) : ∃ t, step s = .next t :=
  exists_step_of_running fun hrun => step_wired hl ▸ hs.exists_exec_prog hrun

/-- Settles O41: a step that answers a next state is not refused. -/
theorem fixedProgramIsNeverRefused : Obligations.FixedProgramIsNeverRefused := by
  intro s hs hl
  obtain ⟨t, ht⟩ := hs.exists_step hl
  exact ⟨fun r => by simp [ht], t, ht⟩

end Sys2Proof.Machine

/-! Reset and hazards (70_reset_and_hazards.md): the exact velocity, what reset leaves, what the first steps after it
do, and which steps drive an output. -/

namespace Sys2Proof.Machine

variable {s t : State}

/-! ### The velocity -/

theorem eq_signedWord_iff {w : Nat} {x : Int} : x = signedWord w x ↔ SignedRange w x :=
  ⟨fun h => h ▸ signedRange_signedWord w x, fun h => (signedWord_of_signedRange h).symm⟩

/-- Settles O8: a difference of two counts is its own 16-bit word exactly when it lies in the signed range. -/
theorem velocityIsExact : Obligations.VelocityIsExact := by
  refine ⟨fun _ _ => rfl, fun c p hc hp => ?_, rfl, rfl, rfl, rfl, fun p d a prev ha hwin hprev => ?_⟩
  · simp only [delta, eq_signedWord_iff]
    omega
  · have hcount := hwin a ha
    rw [delta]
    omega

/-! ### Reset -/

theorem step_reset (hr : s.draw.rst = true) : step s = .next s.takeReset := by
  obtain ⟨body, hb⟩ := exists_step_eq_attempt s
  rw [hb, s.attempt_reset hr]

theorem exec_reset (hr : s.draw.rst = true) (i : Instr) : exec i s = .next s.takeReset := by
  obtain ⟨body, hb⟩ := exists_exec_eq_attempt s i
  rw [hb, s.attempt_reset hr]

/-- Reset undrives every output, of an axis that exists and of one that does not (70_reset_and_hazards.md R251). -/
theorem State.levels_takeReset (s : State) (a : Nat) : s.takeReset.dirO a = none ∧ s.takeReset.dutyO a = none := by
  cases ha : s.takeReset.axisAt a with
  | none => simp [State.dirO, State.dutyO, ha]
  | some r =>
    have hr : r = Axis.atReset s.cfg := List.eq_of_mem_replicate (List.mem_of_getElem? (State.axisAt_eq_some.mp ha).2)
    obtain ⟨-, undriven, -⟩ := outputsFollowTheCommits
    exact undriven _ a r ha (.inl (hr ▸ rfl))

/-- Settles O35: every step and every operation is an attempt, which reset takes first. -/
theorem resetDominatesEverything : Obligations.ResetDominatesEverything := fun s hr =>
  ⟨s.takeReset, step_reset hr, exec_reset hr, rfl, rfl, rfl, rfl, rfl, rfl, rfl, rfl, ⟨rfl, rfl⟩,
    by simp [sleepReq, newEvents], s.levels_takeReset, fun hc => ⟨by rw [State.takeReset_axes, hc]; rfl, rfl, rfl, rfl⟩⟩

/-- `SMUL` that meets a plain draw: the latch and the event are those of that draw's select lines (41_scale_selector.md
R144). -/
theorem execSmul_of_inputs_cons {d : Inputs} {rest : List Inputs} (hf : s.fault = false) (hd : PlainDraw d)
    (hin : s.inputs = d :: rest) :
    ∃ t : State, exec .smul s = .next t ∧ t.inputs = rest ∧ t.cfg = s.cfg ∧ t.fault = s.fault ∧
      t.axes = s.axes ∧ t.seq = s.advance.seq ∧ t.opList = s.advance.opList ∧
      t.m = some (select s.cfg (d.sel.getLsbD 0) (d.sel.getLsbD 1) (d.sel.getLsbD 2)) ∧
      t.history = s.history ++ [.selRead (d.sel.getLsbD 0) (d.sel.getLsbD 1) (d.sel.getLsbD 2)] := by
  have hdraw : s.draw = d := s.draw_cons d rest hin
  refine ⟨_, execSmul_running (State.running_of_inputs_cons hin hd hf), by simp [hin], by simp, by simp, by simp, ?_,
    by simp [State.advance_opList], by simp [hdraw], by simp [hdraw]⟩
  rw [State.consume_seq, State.advance_seq, State.advance_seq]
  rfl

/-- Settles O38: the reset step, then the equations of `SMUL` and of `UPD 0` on the axis record that reset left. -/
theorem firstIterationAfterReset : Obligations.FirstIterationAfterReset := by
  intro s d0 d1 d2 rest hin hn hr hd1 hd2
  have hreset := step_reset (s.draw_cons d0 _ hin ▸ hr)
  have hin1 : s.takeReset.inputs = d1 :: d2 :: rest := by rw [State.takeReset_inputs, hin, List.tail_cons]
  obtain ⟨u, hu, hui, huc, huf, hua, huq, hul, hum, huh⟩ := execSmul_of_inputs_cons rfl hd1 hin1
  have hsmul : step s.takeReset = .next u := (step_wired rfl).trans hu
  rw [State.takeReset_cfg] at huc hum
  rw [State.advance_seq_wired rfl (Nat.succ_pos _), State.takeReset_seq] at huq
  rw [State.advance_opList, State.takeReset_opList, Option.map_none] at hul
  have hax : u.axisAt (0#2).toNat = some (Axis.atReset s.cfg) :=
    State.axisAt_eq_some.mpr ⟨huc ▸ hn, by rw [hua, State.takeReset_axes]; exact List.getElem?_replicate_of_lt hn⟩
  obtain ⟨t, ht, -, -, htm, -, htq, htl, hta, hth⟩ := execUpd_of_inputs_cons hax hum huf hd2 hui
  have hupd : step u = .next t := by
    rw [step_wired hul, huq, huc, prog_axis hn]
    exact ht
  rw [State.advance_seq_wired hul (by rw [huq, huc]; omega), huq] at htq
  rw [State.advance_opList, hul, Option.map_none] at htl
  refine ⟨t, countOn s.cfg d2 0, _, _, _, ?_, rfl, rfl, rfl, rfl, ?_, htm.trans hum, htq, htl, ?_⟩
  · rw [runSteps_next hreset, runSteps_next hsmul, runSteps_next hupd, runSteps]
  · rw [hta, hua, huc, State.takeReset_axes]
    exact List.getElem?_set_self (by simpa using Nat.lt_of_succ_le hn)
  · rw [hth, huh, huc, State.takeReset_history]
    simp only [List.append_assoc, List.cons_append, List.nil_append]
    rfl

/-! ### The first commit of each axis -/

/-- A step leaves the levels of an axis, undrives them, or is the `UPD` of that axis (70_reset_and_hazards.md R255). -/
theorem StepEffect.levels_cases (h : StepEffect s t) (a : Nat) :
    (t.dirO a = none ∧ t.dutyO a = none) ∨ (t.dirO a = s.dirO a ∧ t.dutyO a = s.dutyO a) ∨
    s.fetch = some (encode (.upd (BitVec.ofNat 2 a))) := by
  cases h with
  | reset => exact .inl (s.levels_takeReset a)
  | failure => exact .inl ⟨rfl, rfl⟩
  | stuck | smul | wake | hold => exact .inr (.inl (State.levels_congr (by simp) (by simp) (by simp)))
  | @upd hrun b hw r hb m hm =>
    by_cases ha : (s.updateAxis b.toNat r m).advance.consume.axes[a]? = s.axes[a]?
    · exact .inr (.inl (State.levels_congr (by simp) (by simp) ha))
    · obtain hr | hfetch := (StepEffect.upd hrun b hw hb hm).axis_writer ha
      · exact absurd hr (ne_true_of_eq_false hrun.1)
      · exact .inr (.inr hfetch)

/-- A completed iteration drives the outputs of every axis (42_control_loop.md R167, 70_reset_and_hazards.md R255). -/
theorem levels_isSome_of_iterationResult {p : Params} {o : Observation} {x : Samples}
    (ht : t.AtIterationStart) (hobs : t.observe = iterationResult p o x) {a : Nat} (ha : a < t.cfg.nAxes) :
    (t.dirO a).isSome = true ∧ (t.dutyO a).isSome = true := by
  obtain ⟨-, -, hf, -, hlen, -⟩ := ht
  have haxes : t.axes = List.zipWith (iterationAxis p (x.mult p)) o.axes x.counts := congrArg Observation.axes hobs
  obtain ⟨driven, -, -⟩ := outputsFollowTheCommits
  have hax := State.axisAt_of_lt hlen ha
  simp only [haxes, List.getElem_zipWith] at hax
  obtain ⟨hdir, hduty⟩ := driven t a _ _ _ hf hax rfl rfl
  simp [hdir, hduty]

/-- Settles O29: the iteration law commits every axis, and no step but the `UPD` of an axis drives its outputs. -/
theorem outputsAreDrivenAfterTheFirstIteration : Obligations.OutputsAreDrivenAfterTheFirstIteration := by
  refine ⟨fun s t x rest hs hx hin ht a ha => ?_, fun s t a h => ?_⟩
  · obtain ⟨t', ht', hobs, hstart, hcfg, -⟩ := iterationLaw s x rest hs hx hin
    cases ht.symm.trans ht'
    exact levels_isSome_of_iterationResult hstart hobs (hcfg ▸ ha)
  · obtain ⟨hdir, hduty⟩ | ⟨hdir, hduty⟩ | hfetch := (stepEffect_of_step h).levels_cases a
    · simp [hdir, hduty]
    · simp +contextual [hdir, hduty]
    · exact ⟨fun _ _ => hfetch, fun _ _ => hfetch⟩

end Sys2Proof.Machine

/-! Weak fairness (70_reset_and_hazards.md R266): in a weakly fair environment the sampling period is over again and
again, so each iteration's `WAIT` is reached and completes. -/

namespace Sys2Proof.Machine

variable {s t : State}

/-! ### Steps on plain draws -/

/-- The block on its own program, meeting the invariant, with no fault standing. -/
structure State.OnProgram (s : State) : Prop where
  inv : s.Inv
  wired : s.opList = none
  no_fault : s.fault = false

/-- Where the sequencer of `n` axes stands after a step from `q`; `elapsed` says whether the sampling period is over
(42_control_loop.md R161, R162). -/
def seqAfter (n q : Nat) (elapsed : Bool) : Nat := if q = n + 1 then if elapsed then 0 else q else q + 1

theorem State.OnProgram.seq_lt (hs : s.OnProgram) : s.seq < s.cfg.nAxes + 2 := by
  obtain ⟨-, -, hq, -⟩ := hs.inv
  exact hq

theorem State.OnProgram.facing (hs : s.OnProgram) (env : Nat → Inputs) (n : Nat) : (s.facing env n).OnProgram :=
  ⟨hs.inv, hs.wired, hs.no_fault⟩

theorem seqAfter_hold {n q : Nat} (hq : q < n + 2) : seqAfter n q false = min (q + 1) (n + 1) := by
  obtain rfl | hne := eq_or_ne q (n + 1)
  · simp [seqAfter]
  · rw [seqAfter, if_neg hne, Nat.min_eq_left (by omega)]

/-- Of the program's operations only `WAIT` wraps the sequencer or holds it. -/
theorem step_seq_eq_seqAfter (h : step s = .next t) (hrun : s.Running) (hl : s.opList = none)
    (hq : s.seq < s.cfg.nAxes + 2) : t.seq = seqAfter s.cfg.nAxes s.seq s.draw.periodElapsed := by
  have wait_iff {i : Instr} (hw : s.fetch = some (encode i)) : i = .wait ↔ s.seq = s.cfg.nAxes + 1 := by
    rw [State.fetch_wired hl, Option.some.injEq, encode_injective.eq_iff] at hw
    rw [← hw, prog_eq_wait_iff hq]
  have advances {i : Instr} (hw : s.fetch = some (encode i)) (hi : i ≠ .wait) :
      nextSeq s.cfg.nAxes s.seq = seqAfter s.cfg.nAxes s.seq s.draw.periodElapsed := by
    rw [Ne, wait_iff hw] at hi
    rw [seqAfter, if_neg hi]
    exact Nat.mod_eq_of_lt (by omega)
  obtain ⟨hrst, hfail, hfault⟩ := hrun
  cases stepEffect_of_step h with
  | reset hr => exact absurd hr (ne_true_of_eq_false hrst)
  | stuck _ hf => exact absurd hf (ne_true_of_eq_false hfault)
  | failure _ _ hh => exact absurd hh (ne_true_of_eq_false hfail)
  | smul _ hw => simpa [State.advance_seq, hl] using advances hw nofun
  | upd _ a hw => simpa [State.advance_seq, hl] using advances hw nofun
  | wake _ hw hp => simp [State.advance_seq, hl, (wait_iff hw).mp rfl, seqAfter, nextSeq, hp]
  | hold _ hw hp => simp [(wait_iff hw).mp rfl, seqAfter, hp]

/-- A step on a plain draw. -/
theorem State.OnProgram.exists_step {d : Inputs} {rest : List Inputs} (hs : s.OnProgram) (hin : s.inputs = d :: rest)
    (hd : PlainDraw d) : ∃ t, step s = .next t ∧ t.OnProgram ∧ t.inputs = rest ∧ t.cfg = s.cfg ∧
      t.seq = seqAfter s.cfg.nAxes s.seq d.periodElapsed := by
  have hq := hs.seq_lt
  obtain ⟨hinv, hl, hf⟩ := hs
  have hrun := State.running_of_inputs_cons hin hd hf
  obtain ⟨t, ht⟩ := hinv.exists_step hl
  refine ⟨t, ht, ⟨(stepEffect_of_step ht).inv hinv, step_opList ht hl, step_fault ht hrun⟩, ?_, step_cfg ht, ?_⟩
  · rw [step_inputs ht, hin, List.tail_cons]
  · rw [step_seq_eq_seqAfter ht hrun hl hq, s.draw_cons d rest hin]

/-- Steps on plain draws; while the period is not over they lead to `WAIT` and hold there. -/
theorem State.OnProgram.exists_runSteps {ds rest : List Inputs} (hs : s.OnProgram) (hin : s.inputs = ds ++ rest)
    (hds : ∀ d ∈ ds, PlainDraw d) : ∃ t, runSteps ds.length s = .next t ∧ t.OnProgram ∧ t.inputs = rest ∧
      t.cfg = s.cfg ∧
      ((∀ d ∈ ds, d.periodElapsed = false) → t.seq = min (s.seq + ds.length) (s.cfg.nAxes + 1)) := by
  induction ds generalizing s with
  | nil => exact ⟨s, rfl, hs, hin, rfl, fun _ => (Nat.min_eq_left (Nat.le_of_lt_succ hs.seq_lt)).symm⟩
  | cons d ds ih =>
    obtain ⟨hd, hds⟩ := List.forall_mem_cons.mp hds
    obtain ⟨u, hu, hus, hui, huc, huq⟩ := hs.exists_step hin hd
    obtain ⟨t, ht, hts, hti, htc, htq⟩ := ih hus hui hds
    refine ⟨t, (runSteps_next hu _).trans ht, hts, hti, htc.trans huc, fun helapsed => ?_⟩
    obtain ⟨hd, helapsed⟩ := List.forall_mem_cons.mp helapsed
    rw [htq helapsed, huq, huc, hd, seqAfter_hold hs.seq_lt, List.length_cons]
    omega

/-! ### The sampling period -/

/-- An environment of plain draws in which the sampling period is over again and again. -/
structure KeepsTime (env : Nat → Inputs) : Prop where
  plain : ∀ i, PlainDraw (env i)
  recurs : ∀ i, ∃ j, i ≤ j ∧ (env j).periodElapsed = true

theorem KeepsTime.tail {env : Nat → Inputs} (h : KeepsTime env) : KeepsTime (env ∘ Nat.succ) where
  plain i := h.plain (i + 1)
  recurs i := by
    obtain ⟨_ | j, hij, hj⟩ := h.recurs (i + 1)
    · cases hij
    · exact ⟨j, Nat.le_of_succ_le_succ hij, hj⟩

/-- Were the period never over from draw `i` on, the block would stand in `WAIT` once the program is through, where
fairness promises that it is over. -/
theorem WeaklyFair.keepsTime {env : Nat → Inputs} (h : WeaklyFair s env) (hs : s.OnProgram) : KeepsTime env := by
  obtain ⟨hplain, hfair⟩ := h
  refine ⟨hplain, fun i => ?_⟩
  by_contra! hnever
  have hin : (s.facing env (i + (s.cfg.nAxes + 1))).inputs =
      (List.range i).map env ++ (List.range (s.cfg.nAxes + 1)).map fun m => env (i + m) := by
    simp [State.facing, List.range_add, Function.comp_def]
  obtain ⟨u, hu, hus, hui, huc, -⟩ := (hs.facing env _).exists_runSteps hin
    (List.forall_mem_map.mpr fun _ _ => hplain _)
  obtain ⟨t, ht, hts, -, htc, htq⟩ := hus.exists_runSteps (hui.trans (List.append_nil _).symm)
    (List.forall_mem_map.mpr fun _ _ => hplain _)
  rw [List.length_map, List.length_range] at hu ht htq
  have hwait : t.seq = t.cfg.nAxes + 1 := by
    rw [htq (List.forall_mem_map.mpr fun m _ => eq_false_of_ne_true (hnever _ (Nat.le_add_right i m))), htc, huc]
    exact Nat.min_eq_right (Nat.le_add_left _ _)
  obtain ⟨j, hij, hj⟩ := hfair _ t ((runSteps_trans hu _).trans ht)
    (by rw [State.fetch_wired hts.wired, hwait, prog_last])
  exact hnever j (Nat.le_of_add_right_le hij) hj

/-! ### Iterations -/

/-- `n` draws of the environment `env` complete `k` iterations of every block that stands at `q`. -/
def CompletesWithin (n k nAxes q : Nat) (env : Nat → Inputs) : Prop :=
  ∀ s : State, s.OnProgram → s.cfg.nAxes = nAxes → s.seq = q → s.inputs = (List.range n).map env →
    ∃ t, iterationsEnd n k s = some t

section

variable {n k nAxes q : Nat} {env : Nat → Inputs}

theorem CompletesWithin.succ (hd : PlainDraw (env 0))
    (h : CompletesWithin n (if q = nAxes + 1 ∧ (env 0).periodElapsed = true then k else k + 1) nAxes
      (seqAfter nAxes q (env 0).periodElapsed) (env ∘ Nat.succ)) :
    CompletesWithin (n + 1) (k + 1) nAxes q env := by
  rintro s hs rfl rfl hin
  rw [List.range_succ_eq_map, List.map_cons, List.map_map] at hin
  obtain ⟨u, hu, hus, hui, huc, huq⟩ := hs.exists_step hin hd
  obtain ⟨t, ht⟩ := h u hus (congrArg _ huc) huq hui
  refine ⟨t, iterationsEnd_succ_iff.mpr ⟨State.running_of_inputs_cons hin hd hs.no_fault, u, hu, ?_⟩⟩
  simpa only [completesWait_iff hs.wired hs.seq_lt, s.draw_cons _ _ hin] using ht

/-- In `WAIT` the block holds until the period is over, and then begins the iterations that are left. -/
theorem KeepsTime.exists_completesWithin_wait (henv : KeepsTime env)
    (hk : ∀ env, KeepsTime env → ∃ n, CompletesWithin n k nAxes 0 env) :
    ∃ n, CompletesWithin n (k + 1) nAxes (nAxes + 1) env := by
  have wake {env : Nat → Inputs} (henv : KeepsTime env) (hp : (env 0).periodElapsed = true) :
      ∃ n, CompletesWithin n (k + 1) nAxes (nAxes + 1) env := by
    obtain ⟨n, hn⟩ := hk _ henv.tail
    exact ⟨n + 1, .succ (henv.plain 0) (by simpa [hp, seqAfter] using hn)⟩
  obtain ⟨j, -, hj⟩ := henv.recurs 0
  induction j generalizing env with
  | zero => exact wake henv hj
  | succ j ih =>
    cases hp : (env 0).periodElapsed with
    | true => exact wake henv hp
    | false =>
      obtain ⟨n, hn⟩ := ih henv.tail hj
      exact ⟨n + 1, .succ (henv.plain 0) (by simpa [hp, seqAfter] using hn)⟩

/-- Every operation before `WAIT` takes one draw, so `k` iterations complete by induction on `k`, each backwards from
its `WAIT`. -/
theorem KeepsTime.exists_completesWithin (henv : KeepsTime env) (k : Nat) (hq : q ≤ nAxes + 1) :
    ∃ n, CompletesWithin n k nAxes q env := by
  induction k generalizing q env with
  | zero => exact ⟨0, fun s _ _ _ _ => ⟨s, rfl⟩⟩
  | succ k ihk =>
    induction hq using Nat.decreasingInduction generalizing env with
    | self => exact henv.exists_completesWithin_wait fun env' henv' => ihk henv' (Nat.zero_le _)
    | of_succ q hq ih =>
      obtain ⟨n, hn⟩ := ih henv.tail
      exact ⟨n + 1, .succ (henv.plain 0) (by simpa [hq.ne, seqAfter] using hn)⟩

end

/-- Settles O32: fairness keeps time, and an environment that keeps time completes every iteration in turn. -/
theorem fairEnvironmentCompletesEveryIteration : Obligations.FairEnvironmentCompletesEveryIteration := by
  intro s env k hs hl hf hfair
  have hprog : s.OnProgram := ⟨hs, hl, hf⟩
  obtain ⟨n, hn⟩ := (hfair.keepsTime hprog).exists_completesWithin k (Nat.le_of_lt_succ hprog.seq_lt)
  exact ⟨n, hn (s.facing env n) (hprog.facing env n) rfl rfl rfl⟩

end Sys2Proof.Machine
